-- ==== Sys2Proof/Word.lean ====
section
/-! DEFINITION. The fixed-width words of GLFSK: one byte (a payload byte, a memory cell), one 32-bit
bus or command word (20_memory.md R71, 30_encoding.md R91) and one signed 16-bit PCM sample, held as its
two's complement bits (00_scope.md R10, 30_encoding.md R99). -/

namespace Sys2Proof

/-- One byte of a payload, a frame field or a memory cell. -/
abbrev Byte := BitVec 8

/-- One 32-bit word: a command word, a register of the window, the bus data. -/
abbrev Word := BitVec 32

/-- One PCM sample: 16 bits read as a signed two's complement integer (R10, R99). -/
abbrev Sample := BitVec 16

end Sys2Proof
end

