-- ==== Sys2Proof/Config.lean ====
section
/-! DEFINITION. What an implementation of GLFSK fixes, and the one choice the spec leaves to every step.

The synthesis parameters `P_MAX_PAYLOAD`, `P_FIFO_LOG2` and `P_BASE_ADDR` are "parameters, named arguments of the
model" (00_scope.md R6, 93_implementation_defined.md U5, U7, U8). `step` takes only a state, so the arguments ride in
the state as the field `params`, which no step changes; every claim about all states is a claim about
all their values. The agents' steps (10_state.md R22) are the events below, and the order in which they are
taken is free (70_reset_and_hazards.md R305, U2): where the state does not already hold the next event, an
uninterpreted function chooses it. -/

namespace Sys2Proof

/-- The synthesis-time parameters a model takes as arguments (R6). -/
structure Params where
  /-- `P_MAX_PAYLOAD`, the largest payload byte count. -/
  maxPayload : Nat
  /-- `P_FIFO_LOG2` (also written `D`), log2 of the elastic buffer's depth. -/
  fifoLog2 : Nat
  /-- `P_BASE_ADDR`, the bus address of window offset 0x000: OPEN, the platform's (U5). -/
  baseAddr : Nat
  deriving DecidableEq, Repr

/-- The legal ranges of R6: `P_MAX_PAYLOAD` in 1..255 and `P_FIFO_LOG2` in 2..12; the
platform may place the window anywhere. -/
abbrev Params.Legal (p : Params) : Prop :=
  1 ≤ p.maxPayload ∧ p.maxPayload ≤ 255 ∧ 2 ≤ p.fifoLog2 ∧ p.fifoLog2 ≤ 12

/-- The reference configuration of R6: 64 payload bytes, 2^8 elastic-buffer slots, the window where the platform
places it. -/
def Params.reference (baseAddr : Nat) : Params := { maxPayload := 64, fifoLog2 := 8, baseAddr := baseAddr }

/-- One step of one agent (10_state.md R22), or one `rst` (70_reset_and_hazards.md R290). The inputs of the
ports of R21 ride in it: the bus access, the pushed sample; taking `txStep` while `LOOPBACK = 0` is the
output side's `tx_ready` (40_tone_synthesizer.md R121). -/
inductive Event where
  /-- Synchronizer step: the core domain's copy of the write pointer (R185). -/
  | syncW2R
  /-- Synchronizer step: the sample domain's copy of the read pointer (R185). -/
  | syncR2W
  /-- Host agent: one bus read at byte offset `off` with `bus_size = size` (R74). -/
  | hostRead (off : BitVec 12) (size : BitVec 2)
  /-- Host agent: one bus write at byte offset `off` with `bus_size = size` (R75). -/
  | hostWrite (off : BitVec 12) (size : BitVec 2) (data : Word)
  /-- Source agent: the converter delivers one sample (R184). -/
  | srcPush (x : Sample)
  /-- Transmit agent: one sample leaves the transmit engine (R121). -/
  | txStep
  /-- Receive agent: one sample leaves the elastic buffer (R187). -/
  | rxPop
  /-- Receive agent: a held packet is delivered (R199). -/
  | deliverHeld
  /-- Hardware reset of both clock domains, one step in the model (R290). -/
  | rst
  deriving DecidableEq, Repr, Inhabited

/-- FREE VALUE: the event taken next when the state holds none, one for each value of the state's counter
`turn`. No body: nothing can evaluate it, so a claim about a run holds for every schedule (R305, U2, U4;
log entry 1). -/
opaque Config.freeEvent : Nat → Event

/-- The constant `ID` register: ASCII "GLF1" (10_state.md R24). -/
def Config.idValue : Word := 0x474C4631#32

/-- `LUT_LOG2` of the `PARAMS` register: the sine table has 2^8 entries, fixed (R6, R25). -/
def Config.lutLog2 : Nat := 8

/-- `P_MAX_SYMBOLS`, the number of lanes of the detector bank, fixed (R6, R25). -/
def Config.maxSymbols : Nat := 16

end Sys2Proof
end

