-- ==== Sys2Proof/Syntax.lean ====
section
/-! DEFINITION. The instruction set: the eleven commands of the opcode map (30_encoding.md R92), one
constructor per row of spec/opcode_table.json. Operands are the numbers R93 assembles (`LEN`, `COUNT`
zero-extended from 16 bits, `SYM` from 4); WellFormed.lean holds their ranges. -/

namespace Sys2Proof

/-- A command of GLFSK (R2, R92). -/
inductive Instr where
  /-- NOP: no operation (45_control_commands.md R234). -/
  | nop
  /-- CONFIGURE: validate the staging registers and make them active (R236). -/
  | configure
  /-- SOFT_RESET: return the core domain to its reset state (R244). -/
  | softReset
  /-- TX_FRAME: frame the first `len` bytes of `TX_BUF` and transmit the frame (44_send_path.md R211). -/
  | txFrame (len : Nat)
  /-- TX_SYMBOL: transmit one block of the tone `sym` (40_tone_synthesizer.md R123). -/
  | txSymbol (sym : Nat)
  /-- TX_SILENCE: transmit one block of zero samples (R124). -/
  | txSilence
  /-- TX_ABORT: stop the transmission in progress (44_send_path.md R215). -/
  | txAbort
  /-- RX_START: start capture (R240). -/
  | rxStart
  /-- RX_STOP: stop capture (R241). -/
  | rxStop
  /-- RX_RESYNC: force the decoder back to SEEK_START (R242). -/
  | rxResync
  /-- RX_SLIP: discard the partial block and skip `count` samples (R243). -/
  | rxSlip (count : Nat)
  deriving DecidableEq, Repr

end Sys2Proof
end

