-- ==== Sys2Proof/WellFormed.lean ====
section
/-! DEFINITION. Which instructions have an encoding: the operand ranges of 30_encoding.md R92 and R93. -/

namespace Sys2Proof

/-- An instruction is well formed when its operand fits the operand field R92 gives its row: 16 bits for
`LEN` and `COUNT`, 4 bits for `SYM`. A `LEN` above `P_MAX_PAYLOAD` or a `SYM` at or above `M` is well formed:
it is encodable, and the command refuses it (R93). -/
def Instr.wellFormed : Instr → Bool
  | .nop => true
  | .configure => true
  | .softReset => true
  | .txFrame len => decide (len < 65536)
  | .txSymbol sym => decide (sym < 16)
  | .txSilence => true
  | .txAbort => true
  | .rxStart => true
  | .rxStop => true
  | .rxResync => true
  | .rxSlip count => decide (count < 65536)

/-- `Instr.wellFormed` as a proposition. -/
abbrev Instr.WellFormed (i : Instr) : Prop := i.wellFormed = true

end Sys2Proof
end

