-- ==== Sys2Proof/Decode.lean ====
section
/-! DEFINITION. Decoding of command words (30_encoding.md R91 to R96), total on every word and on every byte
list, and the encoder, written from the same opcode map. -/

namespace Sys2Proof

/-- `v` placed in a word of `w` bits from bit `lo` up: the field `[lo + n - 1 : lo]` of R9. -/
def bitField (w lo : Nat) {n : Nat} (v : BitVec n) : BitVec w := v.setWidth w <<< lo

/-- Why bytes are no command. -/
inductive DecodeError where
  /-- The word matches no row of R92: ILLEGAL of R94, R95. -/
  | illegalCommand (w : Word)
  /-- Fewer than the four bytes every command has (R90, R96). -/
  | truncated
  deriving DecidableEq, Repr

/-- One row of the opcode map R92: the word is the row's when `(w and mask) = pattern`. -/
structure OpcodeRow where
  /-- The bits the row fixes. -/
  mask : Word
  /-- Their values (the table's `match`). -/
  pattern : Word
  /-- The instruction, its operand assembled from the word (R93). -/
  instr : Word → Instr

/-- `LEN` and `COUNT`: `zext_16(w[15:0])` (R93). -/
def operand16 (w : Word) : Nat := (w.extractLsb' 0 16).toNat

/-- `SYM`: `zext_4(w[3:0])` (R93). -/
def operand4 (w : Word) : Nat := (w.extractLsb' 0 4).toNat

/-- The opcode map R92, row for row. -/
def opcodeRows : List OpcodeRow :=
  [ { mask := 0xFFFFFFFF#32, pattern := 0x00000000#32, instr := fun _ => .nop },
    { mask := 0xFFFFFFFF#32, pattern := 0x01000000#32, instr := fun _ => .configure },
    { mask := 0xFFFFFFFF#32, pattern := 0x02000000#32, instr := fun _ => .softReset },
    { mask := 0xFFFF0000#32, pattern := 0x10000000#32, instr := fun w => .txFrame (operand16 w) },
    { mask := 0xFFFFFFF0#32, pattern := 0x11000000#32, instr := fun w => .txSymbol (operand4 w) },
    { mask := 0xFFFFFFFF#32, pattern := 0x12000000#32, instr := fun _ => .txSilence },
    { mask := 0xFFFFFFFF#32, pattern := 0x13000000#32, instr := fun _ => .txAbort },
    { mask := 0xFFFFFFFF#32, pattern := 0x20000000#32, instr := fun _ => .rxStart },
    { mask := 0xFFFFFFFF#32, pattern := 0x21000000#32, instr := fun _ => .rxStop },
    { mask := 0xFFFFFFFF#32, pattern := 0x22000000#32, instr := fun _ => .rxResync },
    { mask := 0xFFFF0000#32, pattern := 0x23000000#32, instr := fun w => .rxSlip (operand16 w) } ]

/-- `(w and r.mask) = r.match` of R92. -/
def OpcodeRow.matches (r : OpcodeRow) (w : Word) : Bool := w &&& r.mask == r.pattern

/-- The first of `rows` that matches `w` gives the instruction; none is ILLEGAL (R95). -/
def decodeRows (rows : List OpcodeRow) (w : Word) : Except DecodeError Instr :=
  match rows with
  | [] => .error (.illegalCommand w)
  | r :: rest => if r.matches w then .ok (r.instr w) else decodeRows rest w

/-- `Decode(w)` of R95, total on every 32-bit word. -/
def decode (w : Word) : Except DecodeError Instr := decodeRows opcodeRows w

/-- The command word of four bytes in bus order, the first at the lowest offset (little-endian, R72). -/
def wordOfBytes (b0 b1 b2 b3 : Byte) : Word :=
  bitField 32 24 b3 ||| bitField 32 16 b2 ||| bitField 32 8 b1 ||| bitField 32 0 b0

/-- The four bytes of a word in bus order (R72). -/
def bytesOfWord (w : Word) : List Byte :=
  [w.extractLsb' 0 8, w.extractLsb' 8 8, w.extractLsb' 16 8, w.extractLsb' 24 8]

/-- Decode the command at the head of a byte list and give the rest: a command is always four bytes (R96). -/
def decodeBytes : List Byte → Except DecodeError (Instr × List Byte)
  | b0 :: b1 :: b2 :: b3 :: rest =>
    match decode (wordOfBytes b0 b1 b2 b3) with
    | .ok i => .ok (i, rest)
    | .error e => .error e
  | _ => .error .truncated

/-- A command word from its fields `OPC`, `RSV = 0`, `OPND` (R91). -/
def commandWord (opc : BitVec 8) (opnd : BitVec 16) : Word :=
  bitField 32 24 opc ||| bitField 32 0 opnd

/-- `OPC` of each instruction (R92). -/
def Instr.opcode : Instr → BitVec 8
  | .nop => 0x00#8
  | .configure => 0x01#8
  | .softReset => 0x02#8
  | .txFrame _ => 0x10#8
  | .txSymbol _ => 0x11#8
  | .txSilence => 0x12#8
  | .txAbort => 0x13#8
  | .rxStart => 0x20#8
  | .rxStop => 0x21#8
  | .rxResync => 0x22#8
  | .rxSlip _ => 0x23#8

/-- `OPND` of each instruction: the operand, unused operand bits 0 (R91, R92). -/
def Instr.operand : Instr → BitVec 16
  | .nop => 0#16
  | .configure => 0#16
  | .softReset => 0#16
  | .txFrame len => BitVec.ofNat 16 len
  | .txSymbol sym => BitVec.ofNat 16 sym
  | .txSilence => 0#16
  | .txAbort => 0#16
  | .rxStart => 0#16
  | .rxStop => 0#16
  | .rxResync => 0#16
  | .rxSlip count => BitVec.ofNat 16 count

/-- The command word of a well-formed instruction (R91, R92, R98). -/
def encode (i : Instr) : Word := commandWord i.opcode i.operand

/-- The command word the opcode table's `nbits` bits `w` stand for: bit 0 the least significant, every bit at
or above `nbits` zero. Every row has 32 bits. -/
def tableWord (nbits w : Nat) : Word := BitVec.ofNat 32 (w % 2 ^ nbits)

/-- The instruction the decoder reads from a table word laid out as its bytes in bus order. -/
def decodeTableWord (nbits w : Nat) : Option Instr :=
  match decodeBytes (bytesOfWord (tableWord nbits w)) with
  | .ok (i, _) => some i
  | .error _ => none

end Sys2Proof
end

