-- ==== Sys2Proof/Machine/State.lean ====
section
/-! DEFINITION. The state of GLFSK (10_state.md), as plain data, and the state after reset.

A register is held by exactly the bits its rule names: reserved bits read 0 and writes to them are ignored
(10_state.md R23), so they have no storage. A value no rule ever shifts or masks (a counter of samples, a list
index, a correlation sum) is a mathematical integer, as 00_scope.md R9 reads the pseudocode; the widths the
spec states for those are part of the invariant in Safety.lean. Values derived at each read (`PAUSED`, `HOLD`,
`irq`, `FIFO_LEVEL`, `TX_STATUS`) are computed in Flags.lean and have no storage. -/

namespace Sys2Proof.Machine

/-! ## Enumerations -/

/-- A reason the machine could stop with a fault. GLFSK has none: every command word, every bus access and
every sample value has a defined result (60_exceptions.md R280), and a refused command or a refused bus access
is a next state. Nobody raises it, and that is exact, neither safe nor unsafe. -/
inductive Fault where
  deriving DecidableEq, Repr

/-- A reason the model gives no meaning to an instruction. -/
inductive Refusal where
  /-- Raised only by an arm of `exec` whose instruction has no meaning yet; safe. No arm raises it now. -/
  | notModelled (mnemonic : String)
  deriving DecidableEq, Repr

/-- The decoder states (10_state.md R51, 42_packet_codec.md R160). -/
inductive RxState where
  /-- Searching for the start marker. -/
  | seekStart
  /-- Reading the length byte. -/
  | readLen
  /-- Reading the payload bytes. -/
  | readPayload
  /-- Reading the integrity field. -/
  | readCrc
  /-- Reading the end marker. -/
  | seekEnd
  /-- A complete packet waits for the host to take the previous one. -/
  | doneHold
  deriving DecidableEq, Repr

/-- `FAIL_REASON`, the reason of the most recent decoder failure (10_state.md R42, 42_packet_codec.md R170). -/
inductive FailReason where
  /-- No failure since reset. -/
  | none
  /-- Length 0 or above `P_MAX_PAYLOAD` (R165). -/
  | badLength
  /-- Integrity field differs from the payload's CRC (R167). -/
  | badCrc
  /-- End marker differs (R168). -/
  | badEnd
  /-- A block without a symbol inside a packet (R162). -/
  | lostSymbol
  /-- A half-duplex transmission began inside a packet (44_send_path.md R213). -/
  | paused
  deriving DecidableEq, Repr

/-- `DET_RESULT.KIND` (10_state.md R46, 41_frequency_detector.md R136). -/
inductive DetKind where
  /-- The block carries the symbol `k1`. -/
  | symbol
  /-- Two tones within the tolerance of each other. -/
  | noConfident
  /-- The block's power is below the noise floor. -/
  | silence
  /-- No block decided since reset. -/
  | none
  deriving DecidableEq, Repr

/-- `ERR.CODE` (60_exceptions.md R260). -/
inductive ErrCode where
  /-- No command refused since reset. -/
  | none
  /-- The word matches no row of the opcode map. -/
  | illegalCommand
  /-- A transmission is in progress, or for CONFIGURE the receiver runs. -/
  | busy
  /-- The last CONFIGURE failed. -/
  | notConfigured
  /-- A check of 45_control_commands.md R237 fails. -/
  | configurationError
  /-- `M` is not 2, 4 or 16. -/
  | framingUnsupported
  /-- `LEN` is 0 or above `P_MAX_PAYLOAD`. -/
  | invalidLength
  /-- `SYM ≥ M`. -/
  | invalidSymbol
  /-- Reserved, never raised (R264). -/
  | insufficientBuffer
  deriving DecidableEq, Repr

/-- One block of a transmission (10_state.md R53). -/
inductive TxItem where
  /-- A tone block carrying symbol `k`. -/
  | tone (k : Nat)
  /-- A block of zero samples. -/
  | silent
  deriving DecidableEq, Repr

/-- The answer to the most recent bus access: the values of `bus_rdata` and `bus_err` (10_state.md R21,
20_memory.md R78). A write has no read data. -/
inductive BusResponse where
  /-- No access answered since `rst`. -/
  | none
  /-- A read returned `rdata`; `err` is `bus_err`. -/
  | read (rdata : Word) (err : Bool)
  /-- A write was taken; `err` is `bus_err`. -/
  | write (err : Bool)
  deriving DecidableEq, Repr

/-! ## Groups of registers -/

/-- The FrequencyPlan and detector settings: the named fields of the configuration registers R31 to R39. The
staging registers are one copy of it and the active configuration `A` is another (R41). -/
structure Plan where
  /-- `BASE`, the frequency of symbol 0 in Hz (R31). -/
  base : BitVec 24
  /-- `STEP`, the frequency step between adjacent symbols in Hz (R32). -/
  step : BitVec 24
  /-- `M`, the number of candidate tones (R33). -/
  symbolCount : BitVec 5
  /-- `FS`, the sample rate in Hz (R34). -/
  sampleRate : BitVec 24
  /-- `N`, the block length in samples (R35). -/
  samplesPerBit : BitVec 16
  /-- `AMP`, the output amplitude with 15 fraction bits (R36). -/
  amplitude : BitVec 16
  /-- `TOL`, the ambiguity tolerance in units of 1/256 (R37). -/
  tolerance : BitVec 8
  /-- `NF`, the silence threshold (R38). -/
  noiseFloor : BitVec 32
  /-- `START`, the start marker byte (R39). -/
  startMarker : Byte
  /-- `END`, the end marker byte (R39). -/
  endMarker : Byte
  deriving DecidableEq, Repr

/-- The reset values of R31 to R39, for the staging registers and for `A` (R41). -/
def Plan.reset : Plan :=
  { base := 1000#24, step := 100#24, symbolCount := 2#5, sampleRate := 16000#24, samplesPerBit := 160#16,
    amplitude := 0x4000#16, tolerance := 13#8, noiseFloor := 256#32, startMarker := 0x2D#8, endMarker := 0xD4#8 }

/-- The write-1-to-clear event flags `STATUS[13:8]` (10_state.md R27). -/
structure EventFlags where
  /-- Bit 8: a packet was delivered. -/
  rxDone : Bool
  /-- Bit 9: a transmission completed. -/
  txDone : Bool
  /-- Bit 10: a command was refused. -/
  cmdErr : Bool
  /-- Bit 11: a sample was dropped at a full elastic buffer. -/
  overrun : Bool
  /-- Bit 12: a block was decided. -/
  detValid : Bool
  /-- Bit 13: a bus access was refused. -/
  busErr : Bool
  deriving DecidableEq, Repr

/-- No event flag set: the reset value (R27). -/
def EventFlags.clear : EventFlags :=
  { rxDone := false, txDone := false, cmdErr := false, overrun := false, detValid := false, busErr := false }

/-- The detector result registers `DET_RESULT`, `DET_E1`, `DET_E2` (10_state.md R46, R47). -/
structure DetResult where
  /-- `KIND` of the most recent block decision. -/
  kind : DetKind
  /-- `SYMBOL`, the strongest tone of that block. -/
  symbol : BitVec 4
  /-- `E1`, the strongest tone's energy. -/
  e1 : BitVec 64
  /-- `E2`, the second strongest tone's energy. -/
  e2 : BitVec 64
  deriving DecidableEq, Repr

/-- `DET_RESULT = 0x00000003`, energies 0: the reset value (R46, R47). -/
def DetResult.reset : DetResult := { kind := .none, symbol := 0#4, e1 := 0#64, e2 := 0#64 }

/-- The packet decoder (10_state.md R51). -/
structure Decoder where
  /-- Decoder state. -/
  rxState : RxState
  /-- The last bits seen in SEEK_START. -/
  win : Byte
  /-- How many bits of `win` arrived since the last clear, saturating at 8. -/
  wcount : Nat
  /-- Field shift register. -/
  acc : BitVec 16
  /-- Bits in `acc`. -/
  nbits : Nat
  /-- The length field of the packet in progress. -/
  plen : Nat
  /-- The payload bytes received so far. -/
  pay : List Byte
  /-- The reason of the most recent failure. -/
  failReason : FailReason
  deriving DecidableEq, Repr

/-- The reset value of the decoder (R51). -/
def Decoder.reset : Decoder :=
  { rxState := .seekStart, win := 0#8, wcount := 0, acc := 0#16, nbits := 0, plen := 0, pay := [], failReason := .none }

/-- One lane of the detector bank (10_state.md R52). -/
structure Lane where
  /-- `Pd[k]`, the reference phase. -/
  phase : Nat
  /-- `I[k]`, the in-phase correlation sum. -/
  inPhase : Int
  /-- `Q[k]`, the quadrature correlation sum. -/
  quad : Int
  deriving DecidableEq, Repr

/-- A cleared lane. -/
def Lane.zero : Lane := { phase := 0, inPhase := 0, quad := 0 }

/-- The block assembler and the detector bank (10_state.md R52). -/
structure Assembler where
  /-- Samples assembled into the current block. -/
  cnt : Nat
  /-- The lanes `k` in 0..15. -/
  lanes : Vector Lane 16
  /-- `PW`, the sum of squared samples of the block. -/
  power : Nat
  /-- `slip_remain`, samples still to be discarded (R48). -/
  slipRemain : BitVec 16
  deriving DecidableEq, Repr

/-- The reset value of the assembler (R52). -/
def Assembler.reset : Assembler :=
  { cnt := 0, lanes := Vector.replicate 16 Lane.zero, power := 0, slipRemain := 0#16 }

/-- The transmit engine (10_state.md R53). -/
structure TxEngine where
  /-- `tx_busy`, `STATUS.TX_BUSY`. -/
  busy : Bool
  /-- `tx_half`: the transmission was accepted in half duplex. -/
  half : Bool
  /-- `tx_list`, the blocks of the transmission, snapshotted at acceptance. -/
  items : List TxItem
  /-- `tx_i`, the index of the current block. -/
  blockIdx : Nat
  /-- `tx_j`, the index of the next sample within the block. -/
  sampleIdx : Nat
  /-- `P_tx`, the transmit phase accumulator. -/
  phase : Nat
  deriving DecidableEq, Repr

/-- The reset value of the transmit engine (R53). -/
def TxEngine.reset : TxEngine :=
  { busy := false, half := false, items := [], blockIdx := 0, sampleIdx := 0, phase := 0 }

/-! ## Storage

RAM is a list of (key, value) pairs in one canonical form: keys strictly rising, and no entry equal to what an
unlisted key reads as, so that equal contents are equal data. -/

/-- Storage keyed by a number. -/
abbrev Sparse (α : Type) := List (Nat × α)

/-- The canonical form of a storage whose unlisted keys read as `d`. -/
abbrev Sparse.wf {α : Type} [DecidableEq α] (d : α) (m : Sparse α) : Prop :=
  (m.map Prod.fst).Pairwise (· < ·) ∧ ∀ c ∈ m, c.2 ≠ d

/-- The RAM bytes of the register window, keyed by window offset: `TX_BUF[j]` at `0x100 + j` and `RX_BUF[j]`
at `0x200 + j` (10_state.md R55, R56). It is the window's only storage; every other offset is a register. -/
abbrev Memory := List Host.Cell

/-- What a byte of memory that nothing has written reads as. The spec gives 0 for the offsets past
`P_MAX_PAYLOAD` (R55, R56) and leaves the RAM contents at power-on to a draw (U1): `State.powerOn` takes the
draw, and a byte drawn as 0 is an unlisted one (log entry 2). -/
def Memory.unlisted : Byte := 0#8

/-- The canonical form of memory. -/
abbrev Memory.wf (m : Memory) : Prop := Sparse.wf Memory.unlisted m

/-- What a slot of `fifo[]` that nothing has written reads as: as `Memory.unlisted`, the draw of U1 is an
argument of `State.powerOn` (log entry 2). -/
def Slots.unlisted : Sample := 0#16

/-- The contents of `fifo[]`, keyed by slot number. -/
abbrev Slots := Sparse Sample

/-- The elastic buffer (10_state.md R54, 43_capture_pipeline.md R180). -/
structure Elastic where
  /-- `fifo[0 .. 2^D - 1]`, the sample storage. -/
  slots : Slots
  /-- `wptr`, the write pointer (sample domain), `D + 1` bits. -/
  wptr : Nat
  /-- `rptr`, the read pointer (core domain), `D + 1` bits. -/
  rptr : Nat
  /-- `wq_r`, the core domain's synchronized copy of `wptr`. -/
  wqR : Nat
  /-- `rq_w`, the sample domain's synchronized copy of `rptr`. -/
  rqW : Nat
  deriving DecidableEq, Repr

/-! ## The state -/

/-- The state of GLFSK. -/
structure State where
  /-- `P_MAX_PAYLOAD`, `P_FIFO_LOG2` and `P_BASE_ADDR` (00_scope.md R6), which no step changes. -/
  params : Params
  /-- `CTRL[2:0]`: `PHASE_CONT`, `DUPLEX`, `LOOPBACK` (R26). -/
  ctrl : BitVec 3
  /-- `STATUS[13:8]` (R27). -/
  flags : EventFlags
  /-- `IRQ_EN[13:8]` (R28). -/
  irqEn : BitVec 6
  /-- `ERR` (R30). -/
  err : Word
  /-- `ERR_CMD` (R30). -/
  errCmd : Word
  /-- The staging registers 0x020 to 0x040 (R31 to R39). -/
  staging : Plan
  /-- The active configuration `A` (R41). -/
  active : Plan
  /-- `CFG_VALID`, `STATUS[2]` (R41). -/
  cfgValid : Bool
  /-- `rx_run`, `STATUS[1]` (R54). -/
  rxRun : Bool
  /-- `RX_STATUS.RX_LEN` (R42). -/
  rxLen : BitVec 8
  /-- `RX_OK_COUNT` (R43). -/
  rxOkCount : Word
  /-- `RX_FAIL_COUNT` (R44). -/
  rxFailCount : Word
  /-- `BLOCK_COUNT` (R45). -/
  blockCount : Word
  /-- `DET_RESULT`, `DET_E1`, `DET_E2` (R46, R47). -/
  det : DetResult
  /-- The packet decoder (R51). -/
  dec : Decoder
  /-- The block assembler and detector bank (R52). -/
  asm : Assembler
  /-- The transmit engine (R53). -/
  tx : TxEngine
  /-- The elastic buffer (R54). -/
  fifo : Elastic
  /-- `TX_BUF` and `RX_BUF` (R55, R56). -/
  mem : Memory
  /-- `txo`, the samples the output side accepted, oldest first (40_tone_synthesizer.md R121). -/
  txo : List Sample
  /-- The answer on `bus_rdata`, `bus_err` to the most recent bus access (R21). -/
  bus : BusResponse
  /-- The model's own: the events whose order the environment has already fixed, next first. -/
  sched : List Event
  /-- The model's own: how many events the free schedule has chosen. -/
  turn : Nat
  deriving DecidableEq, Repr

/-- The state at power-on (70_reset_and_hazards.md R290): every register and hidden element at its reset value
(R59), with the drawn RAM contents `mem` and `slots` (U1). -/
def State.powerOn (params : Params) (mem : Memory) (slots : Slots) : State :=
  { params := params
    ctrl := 0#3
    flags := .clear
    irqEn := 0#6
    err := 0#32
    errCmd := 0#32
    staging := .reset
    active := .reset
    cfgValid := true
    rxRun := false
    rxLen := 0#8
    rxOkCount := 0#32
    rxFailCount := 0#32
    blockCount := 0#32
    det := .reset
    dec := .reset
    asm := .reset
    tx := .reset
    fifo := { slots := slots, wptr := 0, rptr := 0, wqR := 0, rqW := 0 }
    mem := mem
    txo := []
    bus := .none
    sched := []
    turn := 0 }

/-- The machine right after reset, with the reference parameters of R6, the window at bus address 0 (log entry 5) and
the draw in which every RAM byte and every slot is 0 (log entry 2). -/
def State.reset : State := State.powerOn (Params.reference 0) [] []

end Sys2Proof.Machine
end

