-- ==== Sys2Proof/Machine/Ops.lean ====
section
/-! DEFINITION. The named operations over memory and registers, shared by the instruction meanings and the
agents' steps: storage, integer arithmetic of 00_scope.md R10, bit lists of R12, the Gray code of
43_capture_pipeline.md R182, the refusal of a command and of a bus access (60_exceptions.md R266, R268) with the
host's return from them (R273), and the clears of the decoder and the assembler. -/

namespace Sys2Proof.Machine

/-! ## Storage -/

/-- The value at key `a`; an unlisted key reads as `d`. -/
def Sparse.read {α : Type} (d : α) : Sparse α → Nat → α
  | [], _ => d
  | (b, w) :: m, a => if a = b then w else Sparse.read d m a

/-- Store `v` at key `a`, keeping the canonical form: writing `d` removes the entry. -/
def Sparse.write {α : Type} [DecidableEq α] (d : α) : Sparse α → Nat → α → Sparse α
  | [], a, v => if v = d then [] else [(a, v)]
  | (b, w) :: m, a, v =>
    if a < b then (if v = d then (b, w) :: m else (a, v) :: (b, w) :: m)
    else if a = b then (if v = d then m else (a, v) :: m)
    else (b, w) :: Sparse.write d m a v

/-- One byte of memory. -/
def Memory.read (m : Memory) (a : Nat) : Byte := Sparse.read Memory.unlisted m a

/-- Store one byte of memory. -/
def Memory.write (m : Memory) (a : Nat) (v : Byte) : Memory := Sparse.write Memory.unlisted m a v

/-- Store a list of bytes at `a`, `a + 1`, ... -/
def Memory.writeAll (m : Memory) (a : Nat) : List Byte → Memory
  | [] => m
  | v :: vs => Memory.writeAll (m.write a v) (a + 1) vs

/-- The bytes at `a`, ..., `a + n - 1`. -/
def Memory.readAll (m : Memory) (a : Nat) : Nat → List Byte
  | 0 => []
  | n + 1 => m.read a :: Memory.readAll m (a + 1) n

/-- Window offset of `TX_BUF[0]` (10_state.md R23). -/
def txBufBase : Nat := 0x100

/-- Window offset of `RX_BUF[0]` (10_state.md R23). -/
def rxBufBase : Nat := 0x200

/-- `BufByte(B, j)` of 20_memory.md R74, `B` given by its base: bytes at or past `P_MAX_PAYLOAD` read 0. -/
def bufByte (base j : Nat) (s : State) : Byte :=
  if j < s.params.maxPayload then s.mem.read (base + j) else 0#8

/-- `n` bytes of a buffer from index `j` as one value, the first in bits 7:0 (R72, R74). -/
def bufWord (base j : Nat) (s : State) : Nat → Word
  | 0 => 0#32
  | n + 1 => (bufByte base j s).setWidth 32 ||| (bufWord base (j + 1) s n) <<< 8

/-- Write `n` bytes of `data`, bits 7:0 first, to `TX_BUF` from index `j`; an index at or past
`P_MAX_PAYLOAD` ignores its byte (R72, R75). -/
def txBufWrite (maxPayload : Nat) (m : Memory) (j : Nat) (data : Word) : Nat → Memory
  | 0 => m
  | n + 1 =>
    let m' := if j < maxPayload then m.write (txBufBase + j) (data.setWidth 8) else m
    txBufWrite maxPayload m' (j + 1) (data >>> 8) n

/-! ## Integer arithmetic and bit lists -/

/-- `asr(v, n)` = `floor(v / 2^n)` (R10). -/
def asr (v : Int) (n : Nat) : Int := v / (2 ^ n : Nat)

/-- `sat16(v)` = `min(32767, max(-32768, v))` (R10). -/
def sat16 (v : Int) : Int := min 32767 (max (-32768) v)

/-- The low `n` bits of `v`, most significant first: `bits8(v)` and `bits16(v)` of R12. -/
def bitsMsb : Nat → Nat → List Bool
  | 0, _ => []
  | n + 1, v => v.testBit n :: bitsMsb n v

/-- The number whose bits, most significant first, are `bs`. -/
def bitsValue (bs : List Bool) : Nat := bs.foldl (fun a b => 2 * a + b.toNat) 0

/-- `f` applied `n` times. -/
def iterate {α : Type} (f : α → α) : Nat → α → α
  | 0, a => a
  | n + 1, a => iterate f n (f a)

/-! ## Pointers of the elastic buffer -/

/-- Pointer difference modulo `2^(D+1)` (43_capture_pipeline.md R180, R183). -/
def ptrSub (d a b : Nat) : Nat := (((a : Int) - (b : Int)) % ((2 ^ (d + 1) : Nat) : Int)).toNat

/-- Pointer advance by one modulo `2^(D+1)` (R184, R187). -/
def ptrNext (d a : Nat) : Nat := (a + 1) % 2 ^ (d + 1)

/-- `gray(v) = v xor (v >> 1)` (R182). -/
def gray (v : Nat) : Nat := v ^^^ (v >>> 1)

/-- `g xor (g >> 1) xor ... xor (g >> D)` (R182). -/
def grayToBin : Nat → Nat → Nat
  | 0, g => g
  | d + 1, g => grayToBin d g ^^^ (g >>> (d + 1))

/-! ## Refusals and the return from them -/

/-- The code number of R260. -/
def ErrCode.code : ErrCode → BitVec 8
  | .none => 0#8
  | .illegalCommand => 1#8
  | .busy => 2#8
  | .notConfigured => 3#8
  | .configurationError => 4#8
  | .framingUnsupported => 5#8
  | .invalidLength => 6#8
  | .invalidSymbol => 7#8
  | .insufficientBuffer => 8#8

/-- `ERR` after a refusal: `OPC` in 31:24, `DETAIL` in 15:8, `CODE` in 7:0 (10_state.md R30, R266). -/
def errWord (code : ErrCode) (detail : BitVec 8) (w : Word) : Word :=
  bitField 32 24 (w.extractLsb' 24 8) ||| bitField 32 8 detail ||| bitField 32 0 code.code

/-- TAKING A COMMAND ERROR: `CmdRefuse(code, detail, w)`, what `raise CmdError` performs (R266). It saves the
refused word and the reason and sets `CMD_ERR`; it changes nothing else and there is no vector. -/
def cmdRefuse (code : ErrCode) (detail : BitVec 8) (w : Word) (s : State) : State :=
  { s with err := errWord code detail w, errCmd := w, flags := { s.flags with cmdErr := true } }

/-- `raise BusError` on a read: `bus_err = 1`, data 0, `STATUS.BUS_ERR <- 1` (20_memory.md R78, R268). -/
def readError (s : State) : State :=
  { s with bus := .read 0#32 true, flags := { s.flags with busErr := true } }

/-- `raise BusError` on a write: `bus_err = 1`, `STATUS.BUS_ERR <- 1` (20_memory.md R78, R268). -/
def writeError (s : State) : State :=
  { s with bus := .write true, flags := { s.flags with busErr := true } }

/-- A read answered with its data. -/
def answerRead (v : Word) (s : State) : State := { s with bus := .read v false }

/-- A write answered without error. -/
def answerWrite (s : State) : State := { s with bus := .write false }

/-- `STATUS[13:8] and not d[13:8]` (10_state.md R27). -/
def EventFlags.ack (f : EventFlags) (d : Word) : EventFlags :=
  { rxDone := f.rxDone && !d.getLsbD 8
    txDone := f.txDone && !d.getLsbD 9
    cmdErr := f.cmdErr && !d.getLsbD 10
    overrun := f.overrun && !d.getLsbD 11
    detValid := f.detValid && !d.getLsbD 12
    busErr := f.busErr && !d.getLsbD 13 }

/-- THE RETURN FROM AN ERROR OR AN INTERRUPT: the host's write of `d` to `STATUS`, which clears the event flags
it has handled (60_exceptions.md R273). Nothing is restored, because nothing was saved. -/
def ackFlags (d : Word) (s : State) : State := { s with flags := s.flags.ack d }

/-! ## Clears -/

/-- The decoder after `DecoderClear()`: everything but `fail_reason` (42_packet_codec.md R161). -/
def Decoder.cleared (d : Decoder) : Decoder := { Decoder.reset with failReason := d.failReason }

/-- `DecoderClear()` (R161). -/
def decoderClear (s : State) : State := { s with dec := s.dec.cleared }

/-- `DecoderClearUnlessHeld()` (R161). -/
def decoderClearUnlessHeld (s : State) : State :=
  if s.dec.rxState = .doneHold then s else decoderClear s

/-- The assembler after `AssemblerClear()`: everything but `slip_remain` (43_capture_pipeline.md R191). -/
def Assembler.cleared (a : Assembler) : Assembler := { Assembler.reset with slipRemain := a.slipRemain }

/-- `AssemblerClear()` (R191). -/
def assemblerClear (s : State) : State := { s with asm := s.asm.cleared }

end Sys2Proof.Machine
end

