-- ==== Sys2Proof/Machine/Operands.lean ====
section
/-! DEFINITION. What a command or an access names: the active configuration's numbers (00_scope.md R8), the
payload a TX_FRAME snapshots, the checks CONFIGURE makes of the staged plan (45_control_commands.md R237), the
place and width of a bus access (20_memory.md R70, R71) and the registers of the window (10_state.md R23). -/

namespace Sys2Proof.Machine

/-! ## The numbers of a configuration (R8) -/

/-- `M`, the symbol count. -/
def Plan.m (p : Plan) : Nat := p.symbolCount.toNat

/-- `fs`, the sample rate in Hz. -/
def Plan.fs (p : Plan) : Nat := p.sampleRate.toNat

/-- `N`, samples per bit. -/
def Plan.n (p : Plan) : Nat := p.samplesPerBit.toNat

/-- `f(k) = BASE + k × STEP`, the tone of symbol `k` in Hz (R8, 30_encoding.md R103). -/
def Plan.freq (p : Plan) (k : Nat) : Nat := p.base.toNat + k * p.step.toNat

/-- `b = BPS(M)`, bits per symbol: `none` where framing is not supported (R8, 30_encoding.md R102). -/
def Plan.bps (p : Plan) : Option Nat :=
  if p.m = 2 then some 1 else if p.m = 4 then some 2 else if p.m = 16 then some 4 else none

/-! ## Operand forms of the commands -/

/-- The payload TX_FRAME sends: `[TX_BUF[0], ..., TX_BUF[len - 1]]` (44_send_path.md R211). -/
def txPayload (len : Nat) (s : State) : List Byte := s.mem.readAll txBufBase len

/-- `COUNT` of RX_SLIP as the 16-bit `slip_remain` (45_control_commands.md R243). -/
def slipCount (count : Nat) : BitVec 16 := BitVec.ofNat 16 count

/-- Check 0: `M < 2` or `M > 16` (R237). -/
def Plan.failsCount (p : Plan) : Bool := decide (p.m < 2) || decide (16 < p.m)

/-- Check 1: `FS = 0` (R237). -/
def Plan.failsRate (p : Plan) : Bool := decide (p.fs = 0)

/-- Check 2: `N = 0` (R237). -/
def Plan.failsLength (p : Plan) : Bool := decide (p.n = 0)

/-- Check 3: `BASE = 0` (R237). -/
def Plan.failsBase (p : Plan) : Bool := decide (p.base.toNat = 0)

/-- Check 4: `STEP = 0` (R237). -/
def Plan.failsStep (p : Plan) : Bool := decide (p.step.toNat = 0)

/-- Check 5: `2 × (BASE + (M - 1) × STEP) ≥ FS`, on unbounded integers (R237). -/
def Plan.failsNyquist (p : Plan) : Bool :=
  decide ((p.fs : Int) ≤ 2 * ((p.base.toNat : Int) + ((p.m : Int) - 1) * (p.step.toNat : Int)))

/-- Check 6: `STEP × N < FS` (R237). -/
def Plan.failsResolution (p : Plan) : Bool := decide (p.step.toNat * p.n < p.fs)

/-- `Checks(S)`: the mask of every failing check; bit 7 is 0 (R237). -/
def Plan.checks (p : Plan) : BitVec 8 :=
  bitField 8 6 (BitVec.ofBool p.failsResolution) ||| bitField 8 5 (BitVec.ofBool p.failsNyquist)
    ||| bitField 8 4 (BitVec.ofBool p.failsStep) ||| bitField 8 3 (BitVec.ofBool p.failsBase)
    ||| bitField 8 2 (BitVec.ofBool p.failsLength) ||| bitField 8 1 (BitVec.ofBool p.failsRate)
    ||| bitField 8 0 (BitVec.ofBool p.failsCount)

/-! ## Bus accesses -/

/-- The window offset that a bus address names: the window is the 4096 bytes from `P_BASE_ADDR` (10_state.md R23,
20_memory.md R70), and an address outside it does not reach GLFSK. -/
def windowOffset (p : Params) (addr : Nat) : Option (BitVec 12) :=
  if p.baseAddr ≤ addr ∧ addr < p.baseAddr + 0x1000 then some (BitVec.ofNat 12 (addr - p.baseAddr)) else none

/-- The bytes an access of `bus_size = size` moves; 3 is illegal (20_memory.md R71). -/
def accessBytes (size : BitVec 2) : Option Nat :=
  if size = 0#2 then some 1 else if size = 1#2 then some 2 else if size = 2#2 then some 4 else none

/-- The registers of the control region (10_state.md R23). -/
inductive Reg where
  | id | params | ctrl | status | irqEn | cmd | err | errCmd
  | baseHz | stepHz | symbolCount | sampleRate | samplesPerBit | amplitude | tolerance | noiseFloor | markers
  | rxStatus | rxOkCount | rxFailCount | blockCount
  | detResult | detE1Lo | detE1Hi | detE2Lo | detE2Hi
  | slipRemain | txStatus | fifoLevel
  deriving DecidableEq, Repr

/-- The offset of each register (R23). -/
def Reg.offset : Reg → Nat
  | .id => 0x000
  | .params => 0x004
  | .ctrl => 0x008
  | .status => 0x00C
  | .irqEn => 0x010
  | .cmd => 0x014
  | .err => 0x018
  | .errCmd => 0x01C
  | .baseHz => 0x020
  | .stepHz => 0x024
  | .symbolCount => 0x028
  | .sampleRate => 0x02C
  | .samplesPerBit => 0x030
  | .amplitude => 0x034
  | .tolerance => 0x038
  | .noiseFloor => 0x03C
  | .markers => 0x040
  | .rxStatus => 0x050
  | .rxOkCount => 0x054
  | .rxFailCount => 0x058
  | .blockCount => 0x05C
  | .detResult => 0x060
  | .detE1Lo => 0x064
  | .detE1Hi => 0x068
  | .detE2Lo => 0x06C
  | .detE2Hi => 0x070
  | .slipRemain => 0x074
  | .txStatus => 0x078
  | .fifoLevel => 0x07C

/-- Every register of the control region, in offset order (R23). -/
def Reg.all : List Reg :=
  [.id, .params, .ctrl, .status, .irqEn, .cmd, .err, .errCmd, .baseHz, .stepHz, .symbolCount, .sampleRate,
   .samplesPerBit, .amplitude, .tolerance, .noiseFloor, .markers, .rxStatus, .rxOkCount, .rxFailCount,
   .blockCount, .detResult, .detE1Lo, .detE1Hi, .detE2Lo, .detE2Hi, .slipRemain, .txStatus, .fifoLevel]

/-- The register at a control-region offset, `none` where the offset is unmapped (R23, 20_memory.md R77). -/
def regAt (off : Nat) : Option Reg := Reg.all.find? fun r => r.offset == off

end Sys2Proof.Machine
end

