-- ==== Sys2Proof/Machine/Flags.lean ====
section
/-! DEFINITION. The status views: every flag and status register whose value a rule computes from the state
(10_state.md R26 to R28, R42, R46, R48 to R50), the interrupt line (60_exceptions.md R272) and the fields of
`CTRL`. -/

namespace Sys2Proof.Machine

/-- `CTRL.PHASE_CONT` (10_state.md R26). -/
def State.phaseCont (s : State) : Bool := s.ctrl.getLsbD 0

/-- `CTRL.DUPLEX` (R26). -/
def State.duplex (s : State) : Bool := s.ctrl.getLsbD 1

/-- `CTRL.LOOPBACK` (R26). -/
def State.loopback (s : State) : Bool := s.ctrl.getLsbD 2

/-- `PAUSED = RX_RUN ∧ TX_BUSY ∧ tx_half` (R27, 44_send_path.md R213). -/
def State.paused (s : State) : Bool := s.rxRun && s.tx.busy && s.tx.half

/-- `HOLD`: the decoder is in DONE_HOLD (R27). -/
def State.holding (s : State) : Bool := decide (s.dec.rxState = .doneHold)

/-- `open = RX_RUN ∧ ¬PAUSED`: samples that reach the receiver are assembled (43_capture_pipeline.md R187). -/
def State.capturing (s : State) : Bool := s.rxRun && !s.paused

/-- `STATUS[13:8]` as one field. -/
def EventFlags.bits (f : EventFlags) : BitVec 6 :=
  bitField 6 5 (BitVec.ofBool f.busErr) ||| bitField 6 4 (BitVec.ofBool f.detValid)
    ||| bitField 6 3 (BitVec.ofBool f.overrun) ||| bitField 6 2 (BitVec.ofBool f.cmdErr)
    ||| bitField 6 1 (BitVec.ofBool f.txDone) ||| bitField 6 0 (BitVec.ofBool f.rxDone)

/-- `STATUS` (R27). -/
def State.statusWord (s : State) : Word :=
  bitField 32 8 s.flags.bits ||| bitField 32 4 (BitVec.ofBool s.holding) ||| bitField 32 3 (BitVec.ofBool s.paused)
    ||| bitField 32 2 (BitVec.ofBool s.cfgValid) ||| bitField 32 1 (BitVec.ofBool s.rxRun)
    ||| bitField 32 0 (BitVec.ofBool s.tx.busy)

/-- `IRQ_EN` (R28). -/
def State.irqEnWord (s : State) : Word := bitField 32 8 s.irqEn

/-- The interrupt line: the OR over 8..13 of `STATUS[i] and IRQ_EN[i]` (60_exceptions.md R272). -/
def State.irq (s : State) : Bool := decide (s.flags.bits &&& s.irqEn ≠ 0#6)

/-- `PARAMS` (R25). -/
def State.paramsWord (s : State) : Word :=
  bitField 32 16 (BitVec.ofNat 5 Config.maxSymbols) ||| bitField 32 12 (BitVec.ofNat 4 Config.lutLog2)
    ||| bitField 32 8 (BitVec.ofNat 4 s.params.fifoLog2) ||| bitField 32 0 (BitVec.ofNat 8 s.params.maxPayload)

/-- The code of a decoder state (R51). -/
def RxState.code : RxState → BitVec 3
  | .seekStart => 0#3
  | .readLen => 1#3
  | .readPayload => 2#3
  | .readCrc => 3#3
  | .seekEnd => 4#3
  | .doneHold => 5#3

/-- The code of a failure reason (42_packet_codec.md R170). -/
def FailReason.code : FailReason → BitVec 3
  | .none => 0#3
  | .badLength => 1#3
  | .badCrc => 2#3
  | .badEnd => 3#3
  | .lostSymbol => 4#3
  | .paused => 5#3

/-- The code of a block decision (R46). -/
def DetKind.code : DetKind → BitVec 2
  | .symbol => 0#2
  | .noConfident => 1#2
  | .silence => 2#2
  | .none => 3#2

/-- `RX_STATUS` (R42). -/
def State.rxStatusWord (s : State) : Word :=
  bitField 32 8 s.rxLen ||| bitField 32 4 s.dec.failReason.code ||| bitField 32 0 s.dec.rxState.code

/-- `DET_RESULT` (R46). -/
def State.detResultWord (s : State) : Word :=
  bitField 32 4 s.det.symbol ||| bitField 32 0 s.det.kind.code

/-- `TX_STATUS`: `tx_j` in 31:16 and the blocks not yet completely emitted in 15:0, both 0 while idle (R49). -/
def State.txStatusWord (s : State) : Word :=
  if s.tx.busy then
    bitField 32 16 (BitVec.ofNat 16 s.tx.sampleIdx)
      ||| bitField 32 0 (BitVec.ofNat 16 (s.tx.items.length - s.tx.blockIdx))
  else 0#32

/-- `rlevel = (wq_r - rptr) mod 2^(D+1)`, the occupancy as the core domain sees it (43_capture_pipeline.md R183). -/
def State.rlevel (s : State) : Nat := ptrSub s.params.fifoLog2 s.fifo.wqR s.fifo.rptr

/-- `wlevel = (wptr - rq_w) mod 2^(D+1)`, the occupancy as the sample domain sees it (R183). -/
def State.wlevel (s : State) : Nat := ptrSub s.params.fifoLog2 s.fifo.wptr s.fifo.rqW

/-- The true occupancy `(wptr - rptr) mod 2^(D+1)` (R183). -/
def State.occupancy (s : State) : Nat := ptrSub s.params.fifoLog2 s.fifo.wptr s.fifo.rptr

/-- `FIFO_LEVEL` (R50). -/
def State.fifoLevelWord (s : State) : Word := bitField 32 0 (BitVec.ofNat 13 s.rlevel)

end Sys2Proof.Machine
end

