-- ==== Sys2Proof/Machine/Synth.lean ====
section
/-! DEFINITION. The tone synthesizer as arithmetic (40_tone_synthesizer.md R110 to R118): the sine table, the
phase accumulator, the table index and the sample value. The transmit step that uses it is in Transmit.lean. -/

namespace Sys2Proof.Machine

/-- `LUT[0]` to `LUT[15]` (R111). -/
def lutRow0 : List Int :=
  [0, 804, 1608, 2410, 3212, 4011, 4808, 5602, 6393, 7179, 7962, 8739, 9512, 10278, 11039, 11793]

/-- `LUT[16]` to `LUT[31]` (R111). -/
def lutRow1 : List Int :=
  [12539, 13279, 14010, 14732, 15446, 16151, 16846, 17530, 18204, 18868, 19519, 20159, 20787, 21403, 22005, 22594]

/-- `LUT[32]` to `LUT[47]` (R111). -/
def lutRow2 : List Int :=
  [23170, 23731, 24279, 24811, 25329, 25832, 26319, 26790, 27245, 27683, 28105, 28510, 28898, 29268, 29621, 29956]

/-- `LUT[48]` to `LUT[63]` (R111). -/
def lutRow3 : List Int :=
  [30273, 30571, 30852, 31113, 31356, 31580, 31785, 31971, 32137, 32285, 32412, 32521, 32609, 32678, 32728, 32757]

/-- `LUT[64]` to `LUT[79]` (R111). -/
def lutRow4 : List Int :=
  [32767, 32757, 32728, 32678, 32609, 32521, 32412, 32285, 32137, 31971, 31785, 31580, 31356, 31113, 30852, 30571]

/-- `LUT[80]` to `LUT[95]` (R111). -/
def lutRow5 : List Int :=
  [30273, 29956, 29621, 29268, 28898, 28510, 28105, 27683, 27245, 26790, 26319, 25832, 25329, 24811, 24279, 23731]

/-- `LUT[96]` to `LUT[111]` (R111). -/
def lutRow6 : List Int :=
  [23170, 22594, 22005, 21403, 20787, 20159, 19519, 18868, 18204, 17530, 16846, 16151, 15446, 14732, 14010, 13279]

/-- `LUT[112]` to `LUT[127]` (R111). -/
def lutRow7 : List Int :=
  [12539, 11793, 11039, 10278, 9512, 8739, 7962, 7179, 6393, 5602, 4808, 4011, 3212, 2410, 1608, 804]

/-- `LUT[128]` to `LUT[143]` (R111). -/
def lutRow8 : List Int :=
  [0, -804, -1608, -2410, -3212, -4011, -4808, -5602, -6393, -7179, -7962, -8739, -9512, -10278, -11039, -11793]

/-- `LUT[144]` to `LUT[159]` (R111). -/
def lutRow9 : List Int :=
  [-12539, -13279, -14010, -14732, -15446, -16151, -16846, -17530, -18204, -18868, -19519, -20159, -20787, -21403, -22005, -22594]

/-- `LUT[160]` to `LUT[175]` (R111). -/
def lutRow10 : List Int :=
  [-23170, -23731, -24279, -24811, -25329, -25832, -26319, -26790, -27245, -27683, -28105, -28510, -28898, -29268, -29621, -29956]

/-- `LUT[176]` to `LUT[191]` (R111). -/
def lutRow11 : List Int :=
  [-30273, -30571, -30852, -31113, -31356, -31580, -31785, -31971, -32137, -32285, -32412, -32521, -32609, -32678, -32728, -32757]

/-- `LUT[192]` to `LUT[207]` (R111). -/
def lutRow12 : List Int :=
  [-32767, -32757, -32728, -32678, -32609, -32521, -32412, -32285, -32137, -31971, -31785, -31580, -31356, -31113, -30852, -30571]

/-- `LUT[208]` to `LUT[223]` (R111). -/
def lutRow13 : List Int :=
  [-30273, -29956, -29621, -29268, -28898, -28510, -28105, -27683, -27245, -26790, -26319, -25832, -25329, -24811, -24279, -23731]

/-- `LUT[224]` to `LUT[239]` (R111). -/
def lutRow14 : List Int :=
  [-23170, -22594, -22005, -21403, -20787, -20159, -19519, -18868, -18204, -17530, -16846, -16151, -15446, -14732, -14010, -13279]

/-- `LUT[240]` to `LUT[255]` (R111). -/
def lutRow15 : List Int :=
  [-12539, -11793, -11039, -10278, -9512, -8739, -7962, -7179, -6393, -5602, -4808, -4011, -3212, -2410, -1608, -804]

/-- The sine table `LUT[0..255]`, the numbers of R111; read-only, no step changes it (10_state.md R57, R120). -/
def lut : List Int :=
  lutRow0 ++ lutRow1 ++ lutRow2 ++ lutRow3 ++ lutRow4 ++ lutRow5 ++ lutRow6 ++ lutRow7 ++ lutRow8 ++ lutRow9
    ++ lutRow10 ++ lutRow11 ++ lutRow12 ++ lutRow13 ++ lutRow14 ++ lutRow15

/-- `LUT[i mod 256]`. -/
def lutAt (i : Nat) : Int := lut.getD (i % 256) 0

/-- `PhaseStep(P, f) = (P + 256 × f) mod (256 × FS)` (R112). -/
def phaseStep (fs phase freq : Nat) : Nat := (phase + 256 * freq) % (256 * fs)

/-- `Idx(P) = ((2 × P + FS) div (2 × FS)) mod 256`, the nearest entry, ties rounding up (R113). -/
def lutIndex (fs phase : Nat) : Nat := ((2 * phase + fs) / (2 * fs)) % 256

/-- A table value scaled by the amplitude, rounded to nearest with ties toward plus infinity, saturated (R114). -/
def scaledSample (amplitude : BitVec 16) (v : Int) : Int := sat16 (asr (v * (amplitude.toNat : Int) + 0x4000) 15)

/-- `SynthSample(P)` (R114). -/
def synthSample (p : Plan) (phase : Nat) : Sample :=
  BitVec.ofInt 16 (scaledSample p.amplitude (lutAt (lutIndex p.fs phase)))

/-- `n` samples of the tone of symbol `k` from phase `phase` (R115). -/
def toneSamples (p : Plan) (k : Nat) : Nat → Nat → List Sample
  | _, 0 => []
  | phase, n + 1 => synthSample p phase :: toneSamples p k (phaseStep p.fs phase (p.freq k)) n

/-- The samples of `SynthBlock(k, P0)` (R115). -/
def synthBlock (p : Plan) (k phase : Nat) : List Sample := toneSamples p k phase p.n

end Sys2Proof.Machine
end

