-- ==== Sys2Proof/Machine/Codec.lean ====
section
/-! DEFINITION. The packet codec (42_packet_codec.md): the CRC, the framer, the incremental decoder, and the
delivery it ends in (43_capture_pipeline.md R198). -/

namespace Sys2Proof.Machine

/-! ## Integrity field -/

/-- One of the eight shifts of R151. -/
def crcShift (c : BitVec 16) : BitVec 16 := if c.getLsbD 15 then (c <<< 1) ^^^ 0x1021#16 else c <<< 1

/-- One byte of R151: `c xor (d << 8)`, then eight shifts. -/
def crcByte (c : BitVec 16) (d : Byte) : BitVec 16 := iterate crcShift 8 (c ^^^ (d.setWidth 16 <<< 8))

/-- `CRC16(p)`, initial value 0xFFFF (R151). -/
def crc16 (p : List Byte) : BitVec 16 := p.foldl crcByte 0xFFFF#16

/-! ## Encoder -/

/-- `FrameBytes(p)`: `[START, n] ++ p ++ [CRC16(p)[15:8], CRC16(p)[7:0], END]` (R153, 30_encoding.md R100). -/
def frameBytes (a : Plan) (p : List Byte) : List Byte :=
  [a.startMarker, BitVec.ofNat 8 p.length] ++ p
    ++ [(crc16 p).extractLsb' 8 8, (crc16 p).extractLsb' 0 8, a.endMarker]

/-- The bits of bytes in transmission order, each byte most significant bit first (R101). -/
def bytesBits (bs : List Byte) : List Bool := bs.flatMap fun v => bitsMsb 8 v.toNat

/-- `FrameBits(p)` (R153). -/
def frameBits (a : Plan) (p : List Byte) : List Bool := bytesBits (frameBytes a p)

/-- The first `count` groups of `b` consecutive bits, each as a number, first bit most significant (R102). -/
def groupBits (b : Nat) : Nat → List Bool → List Nat
  | 0, _ => []
  | count + 1, bs => bitsValue (bs.take b) :: groupBits b count (bs.drop b)

/-- `FrameSymbols(p)` at `b` bits per symbol (R154). -/
def frameSymbols (a : Plan) (b : Nat) (p : List Byte) : List Nat :=
  groupBits b ((frameBits a p).length / b) (frameBits a p)

/-! ## Decoder -/

/-- `Fail(reason)` (R170). -/
def decoderFail (reason : FailReason) (s : State) : State :=
  decoderClear { s with dec := { s.dec with failReason := reason }, rxFailCount := s.rxFailCount + 1#32 }

/-- `Deliver()` (43_capture_pipeline.md R198). -/
def deliver (s : State) : State :=
  decoderClear
    { s with
      mem := s.mem.writeAll rxBufBase (s.dec.pay.take s.dec.plen)
      rxLen := BitVec.ofNat 8 s.dec.plen
      flags := { s.flags with rxDone := true }
      rxOkCount := s.rxOkCount + 1#32 }

/-- `PacketDone()` (R169). -/
def packetDone (s : State) : State :=
  if s.flags.rxDone then { s with dec := { s.dec with rxState := .doneHold } } else deliver s

/-- Whether the remaining bits of the current symbol are fed (R163). -/
inductive BitOutcome where
  /-- `CONTINUE` -/
  | more
  /-- `STOP`: a delivery or a failure; the rest of the symbol is discarded. -/
  | stop
  deriving DecidableEq, Repr

/-- `DecoderBit(v)` in SEEK_START: the sliding window (R163, R164). -/
def seekStartBit (v : Bool) (s : State) : State :=
  let win := (s.dec.win <<< 1) ||| (BitVec.ofBool v).setWidth 8
  let wcount := min (s.dec.wcount + 1) 8
  if wcount = 8 ∧ win = s.active.startMarker then
    { s with dec := { s.dec with win := win, wcount := wcount, rxState := .readLen, acc := 0#16, nbits := 0 } }
  else
    { s with dec := { s.dec with win := win, wcount := wcount } }

/-- The shift of one bit into the field register, outside SEEK_START (R163). -/
def shiftBit (v : Bool) (s : State) : State :=
  { s with dec := { s.dec with acc := (s.dec.acc <<< 1) ||| (BitVec.ofBool v).setWidth 16, nbits := s.dec.nbits + 1 } }

/-- The length byte is complete (R163, R165). -/
def lengthDone (s : State) : State × BitOutcome :=
  if s.dec.acc = 0#16 ∨ s.params.maxPayload < s.dec.acc.toNat then (decoderFail .badLength s, .stop)
  else
    ({ s with
        dec := { s.dec with plen := s.dec.acc.toNat, pay := [], acc := 0#16, nbits := 0, rxState := .readPayload } },
      .more)

/-- A payload byte is complete (R163, R166). -/
def payloadByteDone (s : State) : State × BitOutcome :=
  let pay := s.dec.pay ++ [s.dec.acc.setWidth 8]
  ({ s with
      dec :=
        { s.dec with
          pay := pay, acc := 0#16, nbits := 0,
          rxState := if pay.length = s.dec.plen then .readCrc else s.dec.rxState } },
    .more)

/-- The integrity field is complete (R163, R167). -/
def crcDone (s : State) : State × BitOutcome :=
  if s.dec.acc ≠ crc16 s.dec.pay then (decoderFail .badCrc s, .stop)
  else ({ s with dec := { s.dec with acc := 0#16, nbits := 0, rxState := .seekEnd } }, .more)

/-- The end marker is complete (R163, R168). -/
def endDone (s : State) : State × BitOutcome :=
  if s.dec.acc ≠ s.active.endMarker.setWidth 16 then (decoderFail .badEnd s, .stop) else (packetDone s, .stop)

/-- `DecoderBit(v)` (R163). -/
def decoderBit (v : Bool) (s : State) : State × BitOutcome :=
  match s.dec.rxState with
  | .seekStart => (seekStartBit v s, .more)
  | .readLen =>
    let s := shiftBit v s
    if s.dec.nbits = 8 then lengthDone s else (s, .more)
  | .readPayload =>
    let s := shiftBit v s
    if s.dec.nbits = 8 then payloadByteDone s else (s, .more)
  | .readCrc =>
    let s := shiftBit v s
    if s.dec.nbits = 16 then crcDone s else (s, .more)
  | .seekEnd =>
    let s := shiftBit v s
    if s.dec.nbits = 8 then endDone s else (s, .more)
  | .doneHold => (shiftBit v s, .more)

/-- Feed bits in order until one answers `STOP` (R162). -/
def feedBits : List Bool → State → State
  | [], s => s
  | v :: vs, s =>
    match decoderBit v s with
    | (s', .more) => feedBits vs s'
    | (s', .stop) => s'

/-- `DecoderFeed(KIND, k1)`, once per block decision (R162). -/
def decoderFeed (kind : DetKind) (k1 : Nat) (s : State) : State :=
  match s.active.bps with
  | none => s
  | some b =>
    match s.dec.rxState, kind with
    | .doneHold, _ => s
    | _, .symbol => feedBits (bitsMsb b k1) s
    | .seekStart, _ => s
    | _, _ => decoderFail .lostSymbol s

end Sys2Proof.Machine
end

