-- ==== Sys2Proof/Machine/Detector.lean ====
section
/-! DEFINITION. The frequency detector bank (41_frequency_detector.md): the per-sample lane update, the block
decision, and the end of a block, which feeds the decoder. -/

namespace Sys2Proof.Machine

/-- The update of the lane of tone `k` by one sample: cosine and sine reference, then the phase (R131). -/
def Lane.update (p : Plan) (k : Nat) (x : Sample) (l : Lane) : Lane :=
  let i := lutIndex p.fs l.phase
  { phase := phaseStep p.fs l.phase (p.freq k)
    inPhase := l.inPhase + x.toInt * lutAt (i + 64)
    quad := l.quad + x.toInt * lutAt i }

/-- The square of a sample (R131). -/
def samplePower (x : Sample) : Nat := (x.toInt * x.toInt).toNat

/-- `LaneUpdate(x)`: the `M` active lanes and the power accumulator (R131); lanes `k ≥ M` are not touched. -/
def Assembler.laneUpdate (p : Plan) (x : Sample) (a : Assembler) : Assembler :=
  { a with
    lanes := a.lanes.mapIdx fun k l => if k < p.m then l.update p k x else l
    power := a.power + samplePower x }

/-- `E[k]` of one lane: `asr(I, 15)^2 + asr(Q, 15)^2` (R133). -/
def Lane.energy (l : Lane) : Nat := (asr l.inPhase 15 * asr l.inPhase 15 + asr l.quad 15 * asr l.quad 15).toNat

/-- `E[0 .. M-1]` (R133). -/
def Assembler.energies (p : Plan) (a : Assembler) : List Nat := (a.lanes.toList.take p.m).map Lane.energy

/-- The largest element, 0 of the empty list. -/
def maxOf (es : List Nat) : Nat := es.foldl max 0

/-- `k1`, the smallest index with the largest energy (R134). -/
def strongest (es : List Nat) : Nat := es.idxOf (maxOf es)

/-- `E2`, the largest energy of the other lanes (R134). -/
def secondEnergy (es : List Nat) : Nat := maxOf (es.eraseIdx (strongest es))

/-- `Decide()`: silence first, then the ambiguity test (R135, R136). -/
def decideKind (p : Plan) (power e1 e2 : Nat) : DetKind :=
  if power / 65536 < p.noiseFloor.toNat then .silence
  else if (256 - p.tolerance.toNat) ^ 2 * e1 ≤ 65536 * e2 then .noConfident
  else .symbol

/-- The decision of the block the assembler holds: `KIND`, `k1`, `E1`, `E2` (R133 to R136). -/
structure Decision where
  /-- `KIND` -/
  kind : DetKind
  /-- `k1` -/
  k1 : Nat
  /-- `E1` -/
  e1 : Nat
  /-- `E2` -/
  e2 : Nat
  deriving DecidableEq, Repr

/-- The decision of the block the assembler holds (R133 to R136). -/
def Assembler.decision (p : Plan) (a : Assembler) : Decision :=
  let es := a.energies p
  let e1 := maxOf es
  let e2 := secondEnergy es
  { kind := decideKind p a.power e1 e2, k1 := strongest es, e1 := e1, e2 := e2 }

/-- The assembler after the samples of a list (R131, R190 without slip). -/
def Assembler.accumulate (p : Plan) (a : Assembler) (xs : List Sample) : Assembler :=
  xs.foldl (fun a x => a.laneUpdate p x) a

/-- `DetectBlock(x[0..N-1])`, the detector as a function of one block (R140). -/
def detectBlock (p : Plan) (xs : List Sample) : Decision := (Assembler.reset.accumulate p xs).decision p

/-- `DET_RESULT`, `DET_E1`, `DET_E2` of a decision (R138). -/
def Decision.registers (d : Decision) : DetResult :=
  { kind := d.kind, symbol := BitVec.ofNat 4 d.k1, e1 := BitVec.ofNat 64 d.e1, e2 := BitVec.ofNat 64 d.e2 }

/-- `BlockEnd()` (R138): the registers and the flag, the cleared bank, then the decoder. -/
def blockEnd (s : State) : State :=
  let d := s.asm.decision s.active
  decoderFeed d.kind d.k1
    (assemblerClear
      { s with
        det := d.registers
        blockCount := s.blockCount + 1#32
        flags := { s.flags with detValid := true } })

end Sys2Proof.Machine
end

