-- ==== Sys2Proof/Machine/Capture.lean ====
section
/-! DEFINITION. The capture pipeline (43_capture_pipeline.md): the steps of the Source, the synchronizers and
the receive agent, and the block assembler. -/

namespace Sys2Proof.Machine

/-- `SrcPush(x)`: a sample is stored, or dropped with `OVERRUN` where the writer sees the buffer full (R184). -/
def srcPush (x : Sample) (s : State) : State :=
  let d := s.params.fifoLog2
  if s.wlevel = 2 ^ d then { s with flags := { s.flags with overrun := true } }
  else
    { s with
      fifo :=
        { s.fifo with
          slots := Sparse.write Slots.unlisted s.fifo.slots (s.fifo.wptr % 2 ^ d) x
          wptr := ptrNext d s.fifo.wptr } }

/-- `SyncW2R`: the write pointer crosses as its Gray code into the core domain (R182, R185). -/
def syncW2R (s : State) : State :=
  { s with fifo := { s.fifo with wqR := grayToBin s.params.fifoLog2 (gray s.fifo.wptr) } }

/-- `SyncR2W`: the read pointer crosses as its Gray code into the sample domain (R182, R185). -/
def syncR2W (s : State) : State :=
  { s with fifo := { s.fifo with rqW := grayToBin s.params.fifoLog2 (gray s.fifo.rptr) } }

/-- `Assemble(x)`: a sample is discarded by a slip, or enters the current block (R190). -/
def assemble (x : Sample) (s : State) : State :=
  if s.asm.slipRemain ≠ 0#16 then { s with asm := { s.asm with slipRemain := s.asm.slipRemain - 1#16 } }
  else
    let a := s.asm.laneUpdate s.active x
    let s' := { s with asm := { a with cnt := a.cnt + 1 } }
    if s'.asm.cnt = s.active.n then blockEnd s' else s'

/-- `take` of R187: a popped sample would be assembled. -/
def popTakes (s : State) : Bool := s.capturing && !s.loopback

/-- `RxPop` is enabled: the core sees a sample and the pipeline is not stalled by a hold (R187, R188). -/
def rxPopEnabled (s : State) : Bool := decide (s.fifo.rptr ≠ s.fifo.wqR) && !(popTakes s && s.holding)

/-- The sample `RxPop` reads (R187). -/
def popSample (s : State) : Sample :=
  Sparse.read Slots.unlisted s.fifo.slots (s.fifo.rptr % 2 ^ s.params.fifoLog2)

/-- `RxPop` (R187, R189). -/
def rxPop (s : State) : State :=
  let s' := { s with fifo := { s.fifo with rptr := ptrNext s.params.fifoLog2 s.fifo.rptr } }
  if popTakes s then assemble (popSample s) s' else s'

/-- `DeliverHeld` is enabled: a packet is held and the previous one was taken (R199). -/
def deliverHeldEnabled (s : State) : Bool := s.holding && !s.flags.rxDone

/-- `DeliverHeld` (R199). -/
def deliverHeld (s : State) : State := deliver s

end Sys2Proof.Machine
end

