-- ==== Sys2Proof/Machine/Transmit.lean ====
section
/-! DEFINITION. The send path (44_send_path.md) and the transmit step (40_tone_synthesizer.md R121): acceptance,
the half-duplex pause, the transmit agent's step to the output port or to the loopback path, and the four
transmit commands TX_FRAME, TX_SYMBOL, TX_SILENCE, TX_ABORT. -/

namespace Sys2Proof.Machine

/-! ## Acceptance -/

/-- `PauseEnter()` (44_send_path.md R213). -/
def pauseEnter (s : State) : State :=
  let s := assemblerClear s
  match s.dec.rxState with
  | .readLen => decoderFail .paused s
  | .readPayload => decoderFail .paused s
  | .readCrc => decoderFail .paused s
  | .seekEnd => decoderFail .paused s
  | .seekStart => decoderClear s
  | .doneHold => s

/-- `TxAccept(list)` (R212). -/
def txAccept (items : List TxItem) (s : State) : State :=
  let half := !s.duplex && !s.loopback
  let s := { s with tx := { s.tx with items := items, blockIdx := 0, sampleIdx := 0, busy := true, half := half } }
  if s.rxRun && half then pauseEnter s else s

/-! ## The transmit agent -/

/-- The block the engine is in: `tx_list[tx_i]` (R121). While busy the index is inside the list (the invariant
of Safety.lean); outside it this total function gives a silent block (log entry 6). -/
def txItem (s : State) : TxItem := s.tx.items.getD s.tx.blockIdx .silent

/-- `P_tx` as the next sample uses it: 0 at the first sample of a block unless `PHASE_CONT = 1` (R116). -/
def txPhase (s : State) : Nat := if s.tx.sampleIdx = 0 ∧ s.phaseCont = false then 0 else s.tx.phase

/-- The sample the next `TxStep` produces (R121). -/
def txSample (s : State) : Sample :=
  match txItem s with
  | .tone _ => synthSample s.active (txPhase s)
  | .silent => 0#16

/-- `P_tx` after the next `TxStep`: a silent block does not advance it (R121, R124). -/
def txPhaseNext (s : State) : Nat :=
  match txItem s with
  | .tone k => phaseStep s.active.fs (txPhase s) (s.active.freq k)
  | .silent => txPhase s

/-- The output port: `tx_data` while `tx_valid = 1`, else `none` (R121, 44_send_path.md R219). -/
def txPort (s : State) : Option Sample := if s.tx.busy && !s.loopback then some (txSample s) else none

/-- `LoopbackIn(x)` (R216). -/
def loopbackIn (x : Sample) (s : State) : State := if s.capturing then assemble x s else s

/-- `emit(x)`: the output side accepts `x` (R121). -/
def emit (x : Sample) (s : State) : State := { s with txo := s.txo ++ [x] }

/-- The engine after the last sample of a transmission; `tx_j` is 0 there. -/
def TxEngine.idle (t : TxEngine) : TxEngine := { TxEngine.reset with phase := t.phase }

/-- `tx_j <- tx_j + 1` and what follows from it: the end of a block, the end of the transmission (R121). -/
def txAdvance (s : State) : State :=
  if s.tx.sampleIdx + 1 = s.active.n then
    if s.tx.blockIdx + 1 = s.tx.items.length then
      { s with tx := s.tx.idle, flags := { s.flags with txDone := true } }
    else { s with tx := { s.tx with sampleIdx := 0, blockIdx := s.tx.blockIdx + 1 } }
  else { s with tx := { s.tx with sampleIdx := s.tx.sampleIdx + 1 } }

/-- `TxStep` is enabled: a transmission is in progress, and in loopback the path admits a sample (R121, R216);
to the output port, taking the step is the output side's readiness. -/
def txStepEnabled (s : State) : Bool := s.tx.busy && !(s.loopback && s.capturing && s.holding)

/-- `TxStep` (R121). -/
def txStep (s : State) : State :=
  let x := txSample s
  let s' := { s with tx := { s.tx with phase := txPhaseNext s } }
  txAdvance (if s.loopback then loopbackIn x s' else emit x s')

/-! ## The transmit commands

Each meaning makes its checks in the order of 60_exceptions.md R265, before its first state change. -/

/-- TX_FRAME (44_send_path.md R211). -/
def execTxFrame (len : Nat) (s : State) : Host.Outcome State Fault Refusal :=
  let w := encode (.txFrame len)
  if s.tx.busy then .next (cmdRefuse .busy 0#8 w s)
  else if s.cfgValid = false then .next (cmdRefuse .notConfigured 0#8 w s)
  else
    match s.active.bps with
    | none => .next (cmdRefuse .framingUnsupported 0#8 w s)
    | some b =>
      if len = 0 ∨ s.params.maxPayload < len then .next (cmdRefuse .invalidLength 0#8 w s)
      else .next (txAccept ((frameSymbols s.active b (txPayload len s)).map .tone) s)

/-- TX_SYMBOL (40_tone_synthesizer.md R123). -/
def execTxSymbol (sym : Nat) (s : State) : Host.Outcome State Fault Refusal :=
  let w := encode (.txSymbol sym)
  if s.tx.busy then .next (cmdRefuse .busy 0#8 w s)
  else if s.cfgValid = false then .next (cmdRefuse .notConfigured 0#8 w s)
  else if s.active.m ≤ sym then .next (cmdRefuse .invalidSymbol 0#8 w s)
  else .next (txAccept [.tone sym] s)

/-- TX_SILENCE (40_tone_synthesizer.md R124). -/
def execTxSilence (s : State) : Host.Outcome State Fault Refusal :=
  let w := encode .txSilence
  if s.tx.busy then .next (cmdRefuse .busy 0#8 w s)
  else if s.cfgValid = false then .next (cmdRefuse .notConfigured 0#8 w s)
  else .next (txAccept [.silent] s)

/-- TX_ABORT (44_send_path.md R215): `TX_DONE` is not set and `P_tx` is kept. -/
def execTxAbort (s : State) : Host.Outcome State Fault Refusal :=
  if s.tx.busy then .next { s with tx := s.tx.idle } else .next s

end Sys2Proof.Machine
end

