-- ==== Sys2Proof/Machine/Control.lean ====
section
/-! DEFINITION. The control commands (45_control_commands.md): NOP, CONFIGURE, the receive control commands and
SOFT_RESET, and the reset `rst` (70_reset_and_hazards.md R290). -/

namespace Sys2Proof.Machine

/-- NOP (R234). -/
def execNop (s : State) : Host.Outcome State Fault Refusal := .next s

/-- CONFIGURE (R236): a failed check sets `CFG_VALID` to 0 and leaves `A` unchanged. -/
def execConfigure (s : State) : Host.Outcome State Fault Refusal :=
  let w := encode .configure
  if s.tx.busy || s.rxRun then .next (cmdRefuse .busy 0#8 w s)
  else
    let det := s.staging.checks
    if det ≠ 0#8 then .next (cmdRefuse .configurationError det w { s with cfgValid := false })
    else
      .next
        (decoderClearUnlessHeld
          (assemblerClear
            { s with active := s.staging, cfgValid := true, tx := { s.tx with phase := 0 } }))

/-- `rptr <- wq_r`: discard every sample the core domain can see (R240, R244). -/
def Elastic.flushed (e : Elastic) : Elastic := { e with rptr := e.wqR }

/-- The core domain at its reset values (R244): the buffers, the slots, `wq_r` and the sample domain are kept,
and so are what the output side already accepted, the bus answer and the schedule. -/
def softReset (s : State) : State :=
  { State.powerOn s.params s.mem s.fifo.slots with
    fifo := s.fifo.flushed, txo := s.txo, bus := s.bus, sched := s.sched, turn := s.turn }

/-- SOFT_RESET (R244). -/
def execSoftReset (s : State) : Host.Outcome State Fault Refusal := .next (softReset s)

/-- RX_START (R240). -/
def execRxStart (s : State) : Host.Outcome State Fault Refusal :=
  if s.cfgValid = false then .next (cmdRefuse .notConfigured 0#8 (encode .rxStart) s)
  else if s.rxRun then .next s
  else
    let s' := decoderClearUnlessHeld (assemblerClear { s with fifo := s.fifo.flushed })
    .next { s' with rxRun := true }

/-- RX_STOP (R241). -/
def execRxStop (s : State) : Host.Outcome State Fault Refusal :=
  .next (decoderClearUnlessHeld (assemblerClear { s with rxRun := false }))

/-- RX_RESYNC (R242). -/
def execRxResync (s : State) : Host.Outcome State Fault Refusal := .next (decoderClearUnlessHeld s)

/-- RX_SLIP (R243): the new count replaces the old one. -/
def execRxSlip (count : Nat) (s : State) : Host.Outcome State Fault Refusal :=
  let s' := assemblerClear s
  .next { s' with asm := { s'.asm with slipRemain := slipCount count } }

/-- `rst` as one step: both domains at their reset values, RAM contents kept (70_reset_and_hazards.md R290,
R245). What the output side already accepted stays accepted (R293), and the schedule goes on. -/
def hardReset (s : State) : State :=
  { State.powerOn s.params s.mem s.fifo.slots with txo := s.txo, sched := s.sched, turn := s.turn }

end Sys2Proof.Machine
end

