-- ==== Sys2Proof/Machine/Dispatch.lean ====
section
/-! DEFINITION. The meaning of each instruction, one arm per constructor of `Instr`. -/

namespace Sys2Proof.Machine

def exec (i : Instr) (s : State) : Host.Outcome State Fault Refusal :=
  match i with
  | .nop => Sys2Proof.Machine.execNop s
  | .configure => Sys2Proof.Machine.execConfigure s
  | .softReset => Sys2Proof.Machine.execSoftReset s
  | .txFrame len => Sys2Proof.Machine.execTxFrame len s
  | .txSymbol sym => Sys2Proof.Machine.execTxSymbol sym s
  | .txSilence => Sys2Proof.Machine.execTxSilence s
  | .txAbort => Sys2Proof.Machine.execTxAbort s
  | .rxStart => Sys2Proof.Machine.execRxStart s
  | .rxStop => Sys2Proof.Machine.execRxStop s
  | .rxResync => Sys2Proof.Machine.execRxResync s
  | .rxSlip count => Sys2Proof.Machine.execRxSlip count s

end Sys2Proof.Machine
end

