-- ==== Sys2Proof/Machine/Bus.lean ====
section
/-! DEFINITION. The host agent: reads and writes of the register window (20_memory.md R70 to R81), the command
register among them (45_control_commands.md R230). -/

namespace Sys2Proof.Machine

/-- `RegRead` (R79): the value each register's rule defines in this state. -/
def regRead (s : State) : Reg → Word
  | .id => Config.idValue
  | .params => s.paramsWord
  | .ctrl => s.ctrl.setWidth 32
  | .status => s.statusWord
  | .irqEn => s.irqEnWord
  | .cmd => 0#32
  | .err => s.err
  | .errCmd => s.errCmd
  | .baseHz => s.staging.base.setWidth 32
  | .stepHz => s.staging.step.setWidth 32
  | .symbolCount => s.staging.symbolCount.setWidth 32
  | .sampleRate => s.staging.sampleRate.setWidth 32
  | .samplesPerBit => s.staging.samplesPerBit.setWidth 32
  | .amplitude => s.staging.amplitude.setWidth 32
  | .tolerance => s.staging.tolerance.setWidth 32
  | .noiseFloor => s.staging.noiseFloor
  | .markers => bitField 32 8 s.staging.endMarker ||| bitField 32 0 s.staging.startMarker
  | .rxStatus => s.rxStatusWord
  | .rxOkCount => s.rxOkCount
  | .rxFailCount => s.rxFailCount
  | .blockCount => s.blockCount
  | .detResult => s.detResultWord
  | .detE1Lo => s.det.e1.extractLsb' 0 32
  | .detE1Hi => s.det.e1.extractLsb' 32 32
  | .detE2Lo => s.det.e2.extractLsb' 0 32
  | .detE2Hi => s.det.e2.extractLsb' 32 32
  | .slipRemain => s.asm.slipRemain.setWidth 32
  | .txStatus => s.txStatusWord
  | .fifoLevel => s.fifoLevelWord

/-- `CmdWrite(w)`: execute the command word `w` in this step (45_control_commands.md R230). -/
def cmdWrite (w : Word) (s : State) : Host.Outcome State Fault Refusal :=
  match decode w with
  | .ok i => exec i s
  | .error _ => .next (cmdRefuse .illegalCommand 0#8 w s)

/-- `RegWrite` (R80): reserved bits are ignored, read-only registers ignore the write. -/
def regWrite (d : Word) (s : State) : Reg → Host.Outcome State Fault Refusal
  | .id => .next s
  | .params => .next s
  | .ctrl => .next { s with ctrl := d.setWidth 3 }
  | .status => .next (ackFlags d s)
  | .irqEn => .next { s with irqEn := d.extractLsb' 8 6 }
  | .cmd => cmdWrite d s
  | .err => .next s
  | .errCmd => .next s
  | .baseHz => .next { s with staging := { s.staging with base := d.setWidth 24 } }
  | .stepHz => .next { s with staging := { s.staging with step := d.setWidth 24 } }
  | .symbolCount => .next { s with staging := { s.staging with symbolCount := d.setWidth 5 } }
  | .sampleRate => .next { s with staging := { s.staging with sampleRate := d.setWidth 24 } }
  | .samplesPerBit => .next { s with staging := { s.staging with samplesPerBit := d.setWidth 16 } }
  | .amplitude => .next { s with staging := { s.staging with amplitude := d.setWidth 16 } }
  | .tolerance => .next { s with staging := { s.staging with tolerance := d.setWidth 8 } }
  | .noiseFloor => .next { s with staging := { s.staging with noiseFloor := d } }
  | .markers =>
    .next { s with staging := { s.staging with startMarker := d.setWidth 8, endMarker := d.extractLsb' 8 8 } }
  | .rxStatus => .next s
  | .rxOkCount => .next s
  | .rxFailCount => .next s
  | .blockCount => .next s
  | .detResult => .next s
  | .detE1Lo => .next s
  | .detE1Hi => .next s
  | .detE2Lo => .next s
  | .detE2Hi => .next s
  | .slipRemain => .next s
  | .txStatus => .next s
  | .fifoLevel => .next s

/-- `HostRead(off, size)` (R74, R76, R77): the answer stands in `bus`. -/
def hostRead (off : BitVec 12) (size : BitVec 2) (s : State) : State :=
  match accessBytes size with
  | none => readError s
  | some n =>
    let o := off.toNat
    if o % n ≠ 0 then readError s
    else if o < 0x100 then
      if n ≠ 4 then readError s
      else
        match regAt o with
        | none => readError s
        | some r => answerRead (regRead s r) s
    else if o < 0x200 then answerRead (bufWord txBufBase (o - 0x100) s n) s
    else if o < 0x300 then answerRead (bufWord rxBufBase (o - 0x200) s n) s
    else readError s

/-- `HostWrite(off, size, data)` (R75, R76, R77). -/
def hostWrite (off : BitVec 12) (size : BitVec 2) (data : Word) (s : State) : Host.Outcome State Fault Refusal :=
  match accessBytes size with
  | none => .next (writeError s)
  | some n =>
    let o := off.toNat
    if o % n ≠ 0 then .next (writeError s)
    else if o < 0x100 then
      if n ≠ 4 then .next (writeError s)
      else
        match regAt o with
        | none => .next (writeError s)
        | some r => regWrite data (answerWrite s) r
    else if o < 0x200 then
      .next (answerWrite { s with mem := txBufWrite s.params.maxPayload s.mem (o - 0x100) data n })
    else if o < 0x300 then .next (answerWrite s)
    else .next (writeError s)

/-- One event: the step of its agent where the step is enabled; an agent whose step is not enabled takes none,
and the event passes with no effect (10_state.md R22, log entry 3). -/
def runEvent (e : Event) (s : State) : Host.Outcome State Fault Refusal :=
  match e with
  | .syncW2R => .next (syncW2R s)
  | .syncR2W => .next (syncR2W s)
  | .hostRead off size => .next (hostRead off size s)
  | .hostWrite off size data => hostWrite off size data s
  | .srcPush x => .next (srcPush x s)
  | .txStep => .next (if txStepEnabled s then txStep s else s)
  | .rxPop => .next (if rxPopEnabled s then rxPop s else s)
  | .deliverHeld => .next (if deliverHeldEnabled s then deliverHeld s else s)
  | .rst => .next (hardReset s)

/-- The window offset of `CMD` (10_state.md R23), where a command is issued. -/
def cmdOffset : BitVec 12 := 0x014#12

/-- The bus access that issues the command word `w`: a 32-bit write to `CMD` (30_encoding.md R96). -/
def commandEvent (w : Word) : Event := .hostWrite cmdOffset 2#2 w

end Sys2Proof.Machine
end

