-- ==== Sys2Proof/Machine/Step.lean ====
section
/-! DEFINITION. One step of the machine: the next event and its effect. -/

namespace Sys2Proof.Machine

/-- The event the next step takes: the one the environment has fixed, or the free schedule's choice. -/
def nextEvent (s : State) : Event :=
  match s.sched with
  | e :: _ => e
  | [] => Config.freeEvent s.turn

/-- The state with the next event taken from the schedule. -/
def takeEvent (s : State) : State :=
  match s.sched with
  | _ :: rest => { s with sched := rest }
  | [] => { s with turn := s.turn + 1 }

/-- One step of one agent (10_state.md R22): any agent may be next (70_reset_and_hazards.md R305), so the order
is the schedule's. -/
def step (s : State) : Host.Outcome State Fault Refusal := runEvent (nextEvent s) (takeEvent s)

/-- The state in which the next step is the host's write of the table word `w` to `CMD`: a command reaches the
decoder only so (30_encoding.md R96). Nothing else changes. -/
def State.withFetchWord (s : State) (nbits w : Nat) : State :=
  { s with sched := commandEvent (tableWord nbits w) :: s.sched }

end Sys2Proof.Machine
end

