-- ==== Sys2Proof/Safety.lean ====
section
/-! DEFINITION. What counts as a safe state of GLFSK, and the words the statements are written in: the invariant
(the ranges 10_state.md R51 to R56 give every element, the elastic buffer's relations of 43_capture_pipeline.md
R186, the widths of 41_frequency_detector.md R139), the frames, the reset table of 10_state.md R23, the stored
samples as a queue, a transmission as the samples it emits, and the core's own steps. -/

namespace Sys2Proof.Machine

/-! ## The invariant -/

/-- The RAM offsets the window has: the first `P_MAX_PAYLOAD` bytes of each buffer (R55, R56). -/
abbrev ramOffset (p : Params) (a : Nat) : Prop :=
  (txBufBase ≤ a ∧ a < txBufBase + p.maxPayload) ∨ (rxBufBase ≤ a ∧ a < rxBufBase + p.maxPayload)

/-- Memory is in canonical form and lists nothing but RAM bytes. -/
abbrev State.MemInv (s : State) : Prop := s.mem.wf ∧ ∀ c ∈ s.mem, ramOffset s.params c.1

/-- The active configuration passes every check of CONFIGURE (R41, 45_control_commands.md R237). -/
abbrev State.CfgInv (s : State) : Prop := s.active.checks = 0#8

/-- `ERR` holds the opcode of `ERR_CMD`, 0 in its reserved bits and no reserved code (R30, 60_exceptions.md R260). -/
abbrev State.ErrInv (s : State) : Prop :=
  s.err.extractLsb' 24 8 = s.errCmd.extractLsb' 24 8 ∧ s.err.extractLsb' 16 8 = 0#8 ∧
    (s.err.extractLsb' 0 8).toNat ≤ 7

/-- A block of a transmission names a tone the configuration has. -/
def TxItem.legal (m : Nat) : TxItem → Bool
  | .tone k => decide (k < m)
  | .silent => true

/-- The transmit engine's ranges (R53); idle, it holds nothing but its phase. -/
abbrev State.TxInv (s : State) : Prop :=
  s.tx.phase < 256 * s.active.fs ∧ s.tx.items.length ≤ 2080 ∧ (∀ i ∈ s.tx.items, i.legal s.active.m = true) ∧
    (s.tx.busy = true → s.tx.blockIdx < s.tx.items.length ∧ s.tx.sampleIdx < s.active.n) ∧
    (s.tx.busy = false → s.tx = { TxEngine.reset with phase := s.tx.phase })

/-- The bound of a correlation sum after `cnt` samples (R139). -/
def laneBound (cnt : Nat) : Nat := cnt * (32768 * 32767)

/-- A lane in use after `cnt` samples: its reference phase is exact and its sums are bounded (R131, R132, R139). -/
abbrev Lane.inRange (p : Plan) (k cnt : Nat) (l : Lane) : Prop :=
  l.phase = 256 * p.freq k * cnt % (256 * p.fs) ∧ l.inPhase.natAbs ≤ laneBound cnt ∧ l.quad.natAbs ≤ laneBound cnt

/-- The assembler's ranges (R52): lanes at or past `M` hold 0; while no sample is assembled the block is empty
(44_send_path.md R214). -/
abbrev State.AsmInv (s : State) : Prop :=
  s.asm.cnt < s.active.n ∧ s.asm.power ≤ s.asm.cnt * 32768 ^ 2 ∧
    (∀ k : Fin 16, if k.val < s.active.m then s.asm.lanes[k].inRange s.active k s.asm.cnt else s.asm.lanes[k] = Lane.zero) ∧
    (s.capturing = false → s.asm.cnt = 0)

/-- The decoder's ranges by state (R51, 42_packet_codec.md R163 to R169); while no sample is assembled nothing but
a held packet is in it. -/
abbrev State.DecInv (s : State) : Prop :=
  s.dec.wcount ≤ 8 ∧
    (s.dec.rxState = .seekStart → s.dec.acc = 0#16 ∧ s.dec.nbits = 0 ∧ s.dec.plen = 0 ∧ s.dec.pay = []) ∧
    (s.dec.rxState = .readLen →
      s.dec.nbits < 8 ∧ s.dec.acc.toNat < 2 ^ s.dec.nbits ∧ s.dec.plen = 0 ∧ s.dec.pay = []) ∧
    (s.dec.rxState = .readPayload →
      s.dec.nbits < 8 ∧ s.dec.acc.toNat < 2 ^ s.dec.nbits ∧ s.dec.pay.length < s.dec.plen) ∧
    (s.dec.rxState = .readCrc →
      s.dec.nbits < 16 ∧ s.dec.acc.toNat < 2 ^ s.dec.nbits ∧ 1 ≤ s.dec.plen ∧ s.dec.pay.length = s.dec.plen) ∧
    (s.dec.rxState = .seekEnd →
      s.dec.nbits < 8 ∧ s.dec.acc.toNat < 2 ^ s.dec.nbits ∧ 1 ≤ s.dec.plen ∧ s.dec.pay.length = s.dec.plen) ∧
    (s.dec.rxState = .doneHold → s.dec.nbits = 8 ∧ 1 ≤ s.dec.plen ∧ s.dec.pay.length = s.dec.plen) ∧
    s.dec.plen ≤ s.params.maxPayload ∧
    (s.capturing = false →
      s.dec.rxState = .doneHold ∨ (s.dec.rxState = .seekStart ∧ s.dec.win = 0#8 ∧ s.dec.wcount = 0))

/-- The elastic buffer's ranges and the relations of R186: the core domain never sees more samples than there
are, and the sample domain never fewer. -/
abbrev State.FifoInv (s : State) : Prop :=
  s.fifo.wptr < 2 ^ (s.params.fifoLog2 + 1) ∧ s.fifo.rptr < 2 ^ (s.params.fifoLog2 + 1) ∧
    s.fifo.wqR < 2 ^ (s.params.fifoLog2 + 1) ∧ s.fifo.rqW < 2 ^ (s.params.fifoLog2 + 1) ∧
    s.rlevel ≤ s.occupancy ∧ s.occupancy ≤ s.wlevel ∧ s.wlevel ≤ 2 ^ s.params.fifoLog2 ∧
    Sparse.wf Slots.unlisted s.fifo.slots ∧ ∀ c ∈ s.fifo.slots, c.1 < 2 ^ s.params.fifoLog2

/-- What every reachable state satisfies. -/
abbrev State.Inv (s : State) : Prop :=
  s.params.Legal ∧ s.MemInv ∧ s.CfgInv ∧ s.ErrInv ∧ s.TxInv ∧ s.AsmInv ∧ s.DecInv ∧ s.FifoInv ∧
    s.rxLen.toNat ≤ s.params.maxPayload

/-! ## Frames -/

/-- Every byte of memory reads as before. -/
def MemKept (s t : State) : Prop := ∀ a, t.mem.read a = s.mem.read a

/-- Every byte of memory outside the `n` bytes from `a` reads as before. -/
def MemKeptOutside (a n : Nat) (s t : State) : Prop :=
  ∀ b, b < a ∨ a + n ≤ b → t.mem.read b = s.mem.read b

/-- Every register of the window but those listed reads as before. -/
def RegsKept (except : List Reg) (s t : State) : Prop := ∀ r, r ∉ except → regRead t r = regRead s r

/-- The samples already on the output, the sample domain's own registers, the stored samples, the synchronized
write pointer, the parameters and the schedule are as before: no command reaches them. -/
def OutsideKept (s t : State) : Prop :=
  t.params = s.params ∧ t.txo = s.txo ∧ t.fifo.slots = s.fifo.slots ∧ t.fifo.wptr = s.fifo.wptr ∧
    t.fifo.rqW = s.fifo.rqW ∧ t.fifo.wqR = s.fifo.wqR ∧ t.bus = s.bus ∧ t.sched = s.sched ∧ t.turn = s.turn

/-- What a refused command leaves, by the numbers of 60_exceptions.md R260 and R266: `ERR` is
`(w[31:24] << 24) or (detail << 8) or code`. -/
def refusedWith (w : Word) (code detail : Nat) (s : State) : State :=
  { s with
    err := BitVec.ofNat 32 (w.toNat / 2 ^ 24 * 2 ^ 24 + detail * 2 ^ 8 + code), errCmd := w,
    flags := { s.flags with cmdErr := true } }

/-- The decoder after `DecoderClear()`, field by field (42_packet_codec.md R161). -/
def DecoderCleared (d e : Decoder) : Prop :=
  e.rxState = .seekStart ∧ e.win = 0#8 ∧ e.wcount = 0 ∧ e.acc = 0#16 ∧ e.nbits = 0 ∧ e.plen = 0 ∧ e.pay = [] ∧
    e.failReason = d.failReason

/-- The decoder after `DecoderClearUnlessHeld()` (R161). -/
def DecoderClearedUnlessHeld (d e : Decoder) : Prop :=
  (d.rxState = .doneHold → e = d) ∧ (d.rxState ≠ .doneHold → DecoderCleared d e)

/-- The assembler after `AssemblerClear()`, field by field (43_capture_pipeline.md R191). -/
def AssemblerCleared (a b : Assembler) : Prop :=
  b.cnt = 0 ∧ (∀ k : Fin 16, b.lanes[k].phase = 0 ∧ b.lanes[k].inPhase = 0 ∧ b.lanes[k].quad = 0) ∧ b.power = 0 ∧
    b.slipRemain = a.slipRemain

/-! ## Registers -/

/-- The reset column of the register table R23 (`PARAMS` for the reference parameters). -/
def Reg.resetValue : Reg → Word
  | .id => 0x474C4631#32
  | .params => 0x00108840#32
  | .ctrl => 0x00000000#32
  | .status => 0x00000004#32
  | .irqEn => 0x00000000#32
  | .cmd => 0x00000000#32
  | .err => 0x00000000#32
  | .errCmd => 0x00000000#32
  | .baseHz => 0x000003E8#32
  | .stepHz => 0x00000064#32
  | .symbolCount => 0x00000002#32
  | .sampleRate => 0x00003E80#32
  | .samplesPerBit => 0x000000A0#32
  | .amplitude => 0x00004000#32
  | .tolerance => 0x0000000D#32
  | .noiseFloor => 0x00000100#32
  | .markers => 0x0000D42D#32
  | .rxStatus => 0x00000000#32
  | .rxOkCount => 0x00000000#32
  | .rxFailCount => 0x00000000#32
  | .blockCount => 0x00000000#32
  | .detResult => 0x00000003#32
  | .detE1Lo => 0x00000000#32
  | .detE1Hi => 0x00000000#32
  | .detE2Lo => 0x00000000#32
  | .detE2Hi => 0x00000000#32
  | .slipRemain => 0x00000000#32
  | .txStatus => 0x00000000#32
  | .fifoLevel => 0x00000000#32

/-- The bits a write to a plain read-write register stores, the masks of 20_memory.md R80; `none` for `STATUS`,
`CMD` and the read-only registers. -/
def Reg.writeMask : Reg → Option Word
  | .ctrl => some 0x00000007#32
  | .irqEn => some 0x00003F00#32
  | .baseHz => some 0x00FFFFFF#32
  | .stepHz => some 0x00FFFFFF#32
  | .symbolCount => some 0x0000001F#32
  | .sampleRate => some 0x00FFFFFF#32
  | .samplesPerBit => some 0x0000FFFF#32
  | .amplitude => some 0x0000FFFF#32
  | .tolerance => some 0x000000FF#32
  | .noiseFloor => some 0xFFFFFFFF#32
  | .markers => some 0x0000FFFF#32
  | _ => none

/-! ## The elastic buffer as a queue -/

/-- The samples stored and not yet popped, oldest first. -/
def fifoContents (s : State) : List Sample :=
  (List.range s.occupancy).map fun i =>
    Sparse.read Slots.unlisted s.fifo.slots ((s.fifo.rptr + i) % 2 ^ s.params.fifoLog2)

/-! ## A transmission as the samples it emits -/

/-- The phase a block starts from (40_tone_synthesizer.md R116). -/
def blockPhase (phaseCont : Bool) (phase : Nat) : Nat := if phaseCont then phase else 0

/-- The samples of one block (R115). -/
def renderItem (p : Plan) (phase : Nat) : TxItem → List Sample
  | .tone k => synthBlock p k phase
  | .silent => List.replicate p.n 0#16

/-- The phase after one block (R115). -/
def itemPhase (p : Plan) (phase : Nat) : TxItem → Nat
  | .tone k => (phase + 256 * p.freq k * p.n) % (256 * p.fs)
  | .silent => phase

/-- The samples of a list of blocks, in order. -/
def renderItems (p : Plan) (phaseCont : Bool) : Nat → List TxItem → List Sample
  | _, [] => []
  | phase, i :: rest =>
    renderItem p (blockPhase phaseCont phase) i
      ++ renderItems p phaseCont (itemPhase p (blockPhase phaseCont phase) i) rest

/-! ## Feeding the decoder -/

/-- Symbols fed to the decoder one per block, each as a SYMBOL outcome. -/
def feedSymbols (ks : List Nat) (s : State) : State := ks.foldl (fun s k => decoderFeed .symbol k s) s

/-- No proper prefix of the 8 bits equals the suffix of the same length (42_packet_codec.md R172). -/
abbrev NoBorder (m : Byte) : Prop := ∀ l : Fin 8, 0 < l.val → (bitsMsb 8 m.toNat).take l ≠ (bitsMsb 8 m.toNat).drop (8 - l)

/-- The frame of `p` with `c` in the integrity field, as symbols of `b` bits. -/
def frameSymbolsWith (a : Plan) (b : Nat) (c : BitVec 16) (p : List Byte) : List Nat :=
  let bits := bytesBits ([a.startMarker, BitVec.ofNat 8 p.length] ++ p
    ++ [c.extractLsb' 8 8, c.extractLsb' 0 8, a.endMarker])
  groupBits b (bits.length / b) bits

/-- Samples assembled one after another (43_capture_pipeline.md R190). -/
def assembleAll (xs : List Sample) (s : State) : State := xs.foldl (fun s x => assemble x s) s

/-! ## Steps of the core -/

/-- The step of an agent is enabled (43_capture_pipeline.md R187, R199, 40_tone_synthesizer.md R121); the others
always are. -/
def eventEnabled (e : Event) (s : State) : Bool :=
  match e with
  | .txStep => txStepEnabled s
  | .rxPop => rxPopEnabled s
  | .deliverHeld => deliverHeldEnabled s
  | .syncW2R => true
  | .syncR2W => true
  | .hostRead _ _ => true
  | .hostWrite _ _ _ => true
  | .srcPush _ => true
  | .rst => true

/-- A step of a core agent or of a synchronizer: no host, no Source, no reset. -/
def eventOfCore : Event → Bool
  | .txStep => true
  | .rxPop => true
  | .deliverHeld => true
  | .syncW2R => true
  | .syncR2W => true
  | .hostRead _ _ => false
  | .hostWrite _ _ _ => false
  | .srcPush _ => false
  | .rst => false

/-- Nothing is left for the core to do (70_reset_and_hazards.md R306): no core step is enabled and both pointer
copies are up to date. -/
def Quiescent (s : State) : Prop :=
  txStepEnabled s = false ∧ rxPopEnabled s = false ∧ deliverHeldEnabled s = false ∧ s.fifo.wqR = s.fifo.wptr ∧
    s.fifo.rqW = s.fifo.rptr

/-- One enabled core step that is not a synchronizer copying a pointer it already holds. -/
def CoreStep (s t : State) : Prop :=
  ∃ e : Event, eventOfCore e = true ∧ eventEnabled e s = true ∧ runEvent e s = .next t ∧
    (e = .syncW2R → s.fifo.wqR ≠ s.fifo.wptr) ∧ (e = .syncR2W → s.fifo.rqW ≠ s.fifo.rptr)

/-- A run of all agents: the events taken, one after another, and the states between them. -/
def AgentRun (ev : Nat → Event) (run : Nat → State) : Prop := ∀ i, runEvent (ev i) (run i) = .next (run (i + 1))

/-- A step is enabled and owes nothing to the environment: `TxStep` only in loopback, since the output side is not
obliged to accept a sample (70_reset_and_hazards.md R305). -/
def fairEnabled (e : Event) (s : State) : Bool :=
  eventOfCore e && eventEnabled e s && (decide (e ≠ .txStep) || s.loopback)

/-- Weak fairness of the core agents (`TxStep` in loopback, `RxPop`, `DeliverHeld`) and of the synchronizers (R305): a
step that stays enabled is eventually taken. -/
def WeaklyFair (ev : Nat → Event) (run : Nat → State) : Prop :=
  ∀ (e : Event) (i : Nat), (∀ j, i ≤ j → fairEnabled e (run j) = true) → ∃ j, i ≤ j ∧ ev j = e

/-- The assumption on the output side under which `TxStep` to the output port is fair too (R305): a sample that stays
on the port is eventually accepted. -/
def OutputAccepts (ev : Nat → Event) (run : Nat → State) : Prop :=
  ∀ i, (∀ j, i ≤ j → txPort (run j) ≠ none) → ∃ j, i ≤ j ∧ ev j = .txStep

end Sys2Proof.Machine
end

