-- ==== Sys2Proof/Certificates/Slice0/Obligations.lean ====
section
/-! DEFINITION. The statements about GLFSK. Each docstring names the rules of the spec it comes from. -/

open Sys2Proof Sys2Proof.Machine

/-! ## Command words -/

/-- Decoding the encoding of a well-formed instruction gives the instruction back, with its operand at every value
the field admits; from bytes, the rest of the list is what follows the four bytes (R91, R92, R93, R95, R96). -/
def Obligations.DecodingAnEncodingGivesTheInstruction : Prop :=
  ∀ i : Instr, i.WellFormed →
    decode (encode i) = .ok i ∧
      ∀ rest : List Byte, decodeBytes (bytesOfWord (encode i) ++ rest) = .ok (i, rest)

/-- Each word has one meaning: what a word decodes to is well formed and encodes to that word (R92, R95). -/
def Obligations.EncodingADecodedWordGivesTheWord : Prop :=
  ∀ (w : Word) (i : Instr), decode w = .ok i → i.WellFormed ∧ encode i = w

/-- A word matches no row of the opcode map exactly when `RSV` is nonzero, `OPC` is a reserved value, or an unused
operand bit is set; it is then refused with ILLEGAL_COMMAND and nothing else happens (R94). -/
def Obligations.IllegalWordsAreRefusedWithNoOtherEffect : Prop :=
  ∀ w : Word,
    let opc := w.toNat / 2 ^ 24
    let rsv := w.toNat / 2 ^ 16 % 2 ^ 8
    let opnd := w.toNat % 2 ^ 16
    ((∀ i : Instr, decode w ≠ .ok i) ↔
        rsv ≠ 0 ∨ (0x03 ≤ opc ∧ opc ≤ 0x0F) ∨ (0x14 ≤ opc ∧ opc ≤ 0x1F) ∨ 0x24 ≤ opc ∨
          (opc ≠ 0x10 ∧ opc ≠ 0x11 ∧ opc ≠ 0x23 ∧ opnd ≠ 0) ∨ (opc = 0x11 ∧ 0x10 ≤ opnd)) ∧
      ((∀ i : Instr, decode w ≠ .ok i) → ∀ s : State, cmdWrite w s = .next (refusedWith w 1 0 s))

/-- One word of each row of the opcode map, written out from R91 and R92, and two words that match none. -/
def Obligations.WordsOfTheOpcodeMapDecode : Prop :=
  decode 0x00000000#32 = .ok .nop ∧ decode 0x01000000#32 = .ok .configure ∧
    decode 0x02000000#32 = .ok .softReset ∧ decode 0x1000ABCD#32 = .ok (.txFrame 0xABCD) ∧
    decode 0x1100000F#32 = .ok (.txSymbol 15) ∧ decode 0x12000000#32 = .ok .txSilence ∧
    decode 0x13000000#32 = .ok .txAbort ∧ decode 0x20000000#32 = .ok .rxStart ∧
    decode 0x21000000#32 = .ok .rxStop ∧ decode 0x22000000#32 = .ok .rxResync ∧
    decode 0x23008001#32 = .ok (.rxSlip 0x8001) ∧
    decode 0x11000010#32 = .error (.illegalCommand 0x11000010#32) ∧
    decode 0x00000001#32 = .error (.illegalCommand 0x00000001#32)

/-- A step whose event is a write of `w` to `CMD` executes the instruction `w` decodes to, on the state with the
bus answered; a word that decodes to none is refused; any other event runs as its agent's step (R29, R230). These are
the model's own choices: the schedule that names the event (log entry 1), the bus answer held in the state (log entry
4), and the clause on `withFetchWord`, by which a placed word is the host's next write to `CMD` (log entry 10). -/
def Obligations.AStepExecutesTheDecodedCommand : Prop :=
  (∀ (s : State) (w : Word) (rest : List Event), s.sched = commandEvent w :: rest →
      (∀ i, decode w = .ok i → step s = exec i (answerWrite { s with sched := rest })) ∧
        ((∀ i, decode w ≠ .ok i) → step s = .next (refusedWith w 1 0 (answerWrite { s with sched := rest })))) ∧
    (∀ (s : State) (nbits v : Nat) (i : Instr), decodeTableWord nbits v = some i →
      step (s.withFetchWord nbits v) = exec i (answerWrite s)) ∧
    (∀ (s : State) (e : Event) (rest : List Event), s.sched = e :: rest →
      step s = runEvent e { s with sched := rest }) ∧
    ∀ s : State, s.sched = [] → step s = runEvent (Config.freeEvent s.turn) { s with turn := s.turn + 1 }

/-- Every step of every agent has a defined result: no state stops the machine (60_exceptions.md R280). -/
def Obligations.EveryStepAnswersANextState : Prop :=
  (∀ (e : Event) (s : State), ∃ t, runEvent e s = .next t) ∧ ∀ s : State, ∃ t, step s = .next t

/-! ## Control commands -/

/-- NOP changes nothing: every register and every byte reads as before. Only the word 0 is a NOP; a nonzero operand
makes the word illegal (R234). -/
def Obligations.NopChangesNothing : Prop :=
  (∀ s : State, ∃ t, exec .nop s = .next t ∧ t = s ∧ RegsKept [] s t ∧ MemKept s t) ∧
    (∀ w : Word, decode w = .ok .nop ↔ w = 0x00000000#32) ∧
    ∀ w : Word, w.toNat / 2 ^ 24 = 0 → w ≠ 0x00000000#32 → decode w = .error (.illegalCommand w)

/-- CONFIGURE with a plan that passes every check makes it active, resets the transmit phase, the receive block and
(unless a packet is held) the decoder, and changes nothing else (R236, R238). -/
def Obligations.ConfigureMakesALegalPlanActive : Prop :=
  ∀ s : State, s.tx.busy = false → s.rxRun = false → s.staging.checks = 0#8 →
    ∃ t, exec .configure s = .next t ∧ t.active = s.staging ∧ t.cfgValid = true ∧ t.tx = { s.tx with phase := 0 } ∧
      AssemblerCleared s.asm t.asm ∧ DecoderClearedUnlessHeld s.dec t.dec ∧
      t = { s with active := t.active, cfgValid := t.cfgValid, tx := t.tx, asm := t.asm, dec := t.dec } ∧
      RegsKept [.status, .rxStatus] s t ∧ MemKept s t

/-- CONFIGURE is refused with BUSY while a transmission is in progress or the receiver runs, and otherwise with
CONFIGURATION_ERROR and the mask when a check fails, which leaves `A` unchanged and `CFG_VALID` at 0 (R236, R265). -/
def Obligations.ConfigureIsRefusedWhenBusyOrIllegal : Prop :=
  ∀ s : State,
    (s.tx.busy = true ∨ s.rxRun = true → exec .configure s = .next (refusedWith 0x01000000#32 2 0 s)) ∧
      (s.tx.busy = false → s.rxRun = false → s.staging.checks ≠ 0#8 →
        exec .configure s =
          .next { refusedWith 0x01000000#32 4 s.staging.checks.toNat s with cfgValid := false })

/-- The mask of `Checks(S)`, bit by bit, and the examples of the rule (R237). -/
def Obligations.ChecksMaskShowsEveryFailure : Prop :=
  (∀ p : Plan,
    (p.checks.getLsbD 0 = true ↔ p.symbolCount.toNat < 2 ∨ 16 < p.symbolCount.toNat) ∧
      (p.checks.getLsbD 1 = true ↔ p.sampleRate.toNat = 0) ∧
      (p.checks.getLsbD 2 = true ↔ p.samplesPerBit.toNat = 0) ∧
      (p.checks.getLsbD 3 = true ↔ p.base.toNat = 0) ∧
      (p.checks.getLsbD 4 = true ↔ p.step.toNat = 0) ∧
      (p.checks.getLsbD 5 = true ↔
        2 * ((p.base.toNat : Int) + ((p.symbolCount.toNat : Int) - 1) * p.step.toNat) ≥ p.sampleRate.toNat) ∧
      (p.checks.getLsbD 6 = true ↔ p.step.toNat * p.samplesPerBit.toNat < p.sampleRate.toNat) ∧
      p.checks.getLsbD 7 = false) ∧
    Plan.reset.checks = 0#8 ∧ { Plan.reset with symbolCount := 3#5 }.checks = 0#8 ∧
    { Plan.reset with symbolCount := 16#5, base := 7000#24 }.checks = 0x20#8 ∧
    { Plan.reset with step := 50#24 }.checks = 0x40#8 ∧
    { Plan.reset with symbolCount := 17#5 }.checks = 0x01#8 ∧
    { Plan.reset with symbolCount := 1#5 }.checks = 0x01#8 ∧
    { Plan.reset with sampleRate := 2200#24 }.checks = 0x20#8 ∧
    { Plan.reset with sampleRate := 2201#24 }.checks = 0#8 ∧
    { Plan.reset with base := 0#24, step := 0#24, symbolCount := 0#5, sampleRate := 0#24,
                      samplesPerBit := 0#16 }.checks = 0x3F#8

/-- SOFT_RESET returns every core-domain register and hidden element to its reset value and flushes the elastic
buffer as the core sees it; the RAM, the stored samples, `wq_r` and the sample domain are kept (R244). -/
def Obligations.SoftResetReturnsTheCoreToReset : Prop :=
  ∀ s : State, ∃ t, exec .softReset s = .next t ∧
    (∀ r : Reg, r ≠ .params → regRead t r = r.resetValue) ∧ regRead t .params = regRead s .params ∧
    t.irq = false ∧ t.active = Plan.reset ∧ t.cfgValid = true ∧ t.rxRun = false ∧ t.tx = TxEngine.reset ∧
    t.asm = Assembler.reset ∧ t.dec = Decoder.reset ∧ t.fifo = { s.fifo with rptr := s.fifo.wqR } ∧
    t.params = s.params ∧ t.txo = s.txo ∧ MemKept s t

/-! ## Transmit commands -/

/-- TX_FRAME with a length in range is accepted when idle, configured and framing is supported: the blocks are
the frame of the payload as it stands in `TX_BUF`, `8 (LEN + 5) / b` of them, and nothing but the engine, and in a
half-duplex pause the receiver, changes (R211, R212, R213). -/
def Obligations.TxFrameStartsTheFrameOfTxBuf : Prop :=
  ∀ (s : State) (len b : Nat), s.params.Legal → s.tx.busy = false → s.cfgValid = true → s.active.bps = some b →
    1 ≤ len → len ≤ s.params.maxPayload →
    ∃ t, exec (.txFrame len) s = .next t ∧
      (∀ p : List Byte, p.length = len → (∀ j, (h : j < p.length) → p[j] = s.mem.read (0x100 + j)) →
        t.tx =
          { busy := true, half := !s.duplex && !s.loopback, items := (frameSymbols s.active b p).map .tone,
            blockIdx := 0, sampleIdx := 0, phase := s.tx.phase }) ∧
      t.tx.items.length = 8 * (len + 5) / b ∧ regRead t .txStatus = BitVec.ofNat 32 (8 * (len + 5) / b) ∧
      ((s.rxRun && t.tx.half) = false → t = { s with tx := t.tx }) ∧
      t = { s with tx := t.tx, asm := t.asm, dec := t.dec, rxFailCount := t.rxFailCount } ∧
      RegsKept [.status, .txStatus, .rxStatus, .rxFailCount] s t ∧ MemKept s t

/-- TX_SYMBOL of a symbol below `M` and TX_SILENCE are accepted when idle and configured, for any `M`: one block,
and nothing but the engine, and in a half-duplex pause the receiver, changes (R123, R124, R212). -/
def Obligations.TxSymbolAndTxSilenceStartOneBlock : Prop :=
  ∀ (s : State) (i : Instr) (item : TxItem), s.tx.busy = false → s.cfgValid = true →
    ((∃ sym, i = .txSymbol sym ∧ item = .tone sym ∧ sym < s.active.m) ∨ (i = .txSilence ∧ item = .silent)) →
    ∃ t, exec i s = .next t ∧
      t.tx =
        { busy := true, half := !s.duplex && !s.loopback, items := [item], blockIdx := 0, sampleIdx := 0,
          phase := s.tx.phase } ∧
      regRead t .txStatus = 1#32 ∧
      ((s.rxRun && t.tx.half) = false → t = { s with tx := t.tx }) ∧
      t = { s with tx := t.tx, asm := t.asm, dec := t.dec, rxFailCount := t.rxFailCount } ∧
      RegsKept [.status, .txStatus, .rxStatus, .rxFailCount] s t ∧ MemKept s t

/-- A transmission accepted in half duplex while the receiver runs pauses it: the partial block is discarded, a
packet in progress fails with reason PAUSED, a searching decoder is cleared, a held packet is kept (R213). -/
def Obligations.HalfDuplexTransmissionPausesTheReceiver : Prop :=
  ∀ (s t : State) (i : Instr), exec i s = .next t → s.tx.busy = false → t.tx.busy = true → s.rxRun = true →
    s.duplex = false → s.loopback = false →
    t.paused = true ∧ AssemblerCleared s.asm t.asm ∧
      (s.dec.rxState = .doneHold → t.dec = s.dec ∧ t.rxFailCount = s.rxFailCount) ∧
      (s.dec.rxState = .seekStart → DecoderCleared s.dec t.dec ∧ t.rxFailCount = s.rxFailCount) ∧
      (s.dec.rxState ≠ .doneHold → s.dec.rxState ≠ .seekStart →
        DecoderCleared { s.dec with failReason := .paused } t.dec ∧ t.rxFailCount = s.rxFailCount + 1#32)

/-- The transmit commands and RX_START are refused with the first cause that holds, in the order BUSY,
NOT_CONFIGURED, FRAMING_UNSUPPORTED, then INVALID_LENGTH or INVALID_SYMBOL (R265; codes of R260). -/
def Obligations.RefusalsReportTheFirstCause : Prop :=
  ∀ s : State,
    (∀ i : Instr, i.WellFormed → (i = .txSilence ∨ (∃ len, i = .txFrame len) ∨ ∃ sym, i = .txSymbol sym) →
      (s.tx.busy = true → exec i s = .next (refusedWith (encode i) 2 0 s)) ∧
        (s.tx.busy = false → s.cfgValid = false → exec i s = .next (refusedWith (encode i) 3 0 s))) ∧
      (s.cfgValid = false → exec .rxStart s = .next (refusedWith (encode .rxStart) 3 0 s)) ∧
      ∀ len sym : Nat, s.tx.busy = false → s.cfgValid = true →
        (s.active.m ≠ 2 → s.active.m ≠ 4 → s.active.m ≠ 16 →
            exec (.txFrame len) s = .next (refusedWith (encode (.txFrame len)) 5 0 s)) ∧
          (s.active.m = 2 ∨ s.active.m = 4 ∨ s.active.m = 16 → len = 0 ∨ s.params.maxPayload < len →
            exec (.txFrame len) s = .next (refusedWith (encode (.txFrame len)) 6 0 s)) ∧
          (s.active.m ≤ sym → exec (.txSymbol sym) s = .next (refusedWith (encode (.txSymbol sym)) 7 0 s))

/-- TX_ABORT is never refused: it empties the engine and keeps `P_tx`, sets no `TX_DONE`, and has no effect when
idle (R215). -/
def Obligations.TxAbortEndsTheTransmission : Prop :=
  ∀ s : State, ∃ t, exec .txAbort s = .next t ∧
    (s.tx.busy = true →
      t.tx = { busy := false, half := false, items := [], blockIdx := 0, sampleIdx := 0, phase := s.tx.phase }) ∧
    (s.tx.busy = false → t = s) ∧ t = { s with tx := t.tx } ∧ t.paused = false ∧ regRead t .txStatus = 0#32 ∧
    RegsKept [.status, .txStatus] s t ∧ MemKept s t

/-! ## Receive commands -/

/-- RX_START on a configured, stopped receiver discards the samples the core can see, empties the assembler and
(unless a packet is held) the decoder, and runs; on a running receiver it changes nothing (R240). -/
def Obligations.RxStartStartsAnEmptyReceiver : Prop :=
  ∀ s : State, s.cfgValid = true →
    (s.rxRun = true → exec .rxStart s = .next s) ∧
      (s.rxRun = false →
        ∃ t, exec .rxStart s = .next t ∧ t.rxRun = true ∧ t.fifo = { s.fifo with rptr := s.fifo.wqR } ∧
          AssemblerCleared s.asm t.asm ∧ DecoderClearedUnlessHeld s.dec t.dec ∧
          t = { s with rxRun := t.rxRun, fifo := t.fifo, asm := t.asm, dec := t.dec } ∧
          regRead t .fifoLevel = 0#32 ∧ RegsKept [.status, .rxStatus, .fifoLevel] s t ∧ MemKept s t)

/-- RX_STOP stops the receiver and empties the assembler and (unless a packet is held) the decoder; RX_RESYNC
empties only the decoder. Neither is ever refused, counts a failure or changes anything else (R241, R242). -/
def Obligations.RxStopAndRxResyncClearTheReceiver : Prop :=
  ∀ s : State,
    (∃ t, exec .rxStop s = .next t ∧ t.rxRun = false ∧ AssemblerCleared s.asm t.asm ∧
      DecoderClearedUnlessHeld s.dec t.dec ∧ t = { s with rxRun := t.rxRun, asm := t.asm, dec := t.dec } ∧
      RegsKept [.status, .rxStatus] s t ∧ MemKept s t) ∧
    ∃ t, exec .rxResync s = .next t ∧ DecoderClearedUnlessHeld s.dec t.dec ∧ t = { s with dec := t.dec } ∧
      RegsKept [.rxStatus] s t ∧ MemKept s t

/-- RX_SLIP empties the assembler and sets the slip count to its operand, whatever was left of an earlier one; it
changes nothing else (R243). -/
def Obligations.RxSlipReplacesTheSlipCount : Prop :=
  ∀ (s : State) (count : Nat), count < 2 ^ 16 →
    ∃ t, exec (.rxSlip count) s = .next t ∧ t.asm.slipRemain.toNat = count ∧
      AssemblerCleared { s.asm with slipRemain := BitVec.ofNat 16 count } t.asm ∧ t = { s with asm := t.asm } ∧
      regRead t .slipRemain = BitVec.ofNat 32 count ∧ RegsKept [.slipRemain] s t ∧ MemKept s t

/-! ## All commands -/

/-- Every write to `CMD` either leaves `ERR`, `ERR_CMD` and `CMD_ERR` alone, or is SOFT_RESET, or is a refusal that
changes those three and nothing else, but for `CFG_VALID` on CONFIGURATION_ERROR; codes 0 and above 7 are never
recorded (R230, R260, R266). -/
def Obligations.RefusalsArePrecise : Prop :=
  ∀ (w : Word) (s t : State), cmdWrite w s = .next t →
    (t.err = s.err ∧ t.errCmd = s.errCmd ∧ t.flags.cmdErr = s.flags.cmdErr) ∨ w = 0x02000000#32 ∨
      ∃ code detail : Nat, 1 ≤ code ∧ code ≤ 7 ∧ detail < 128 ∧ (code = 4 ↔ detail ≠ 0) ∧
        t = { refusedWith w code detail s with cfgValid := s.cfgValid && decide (code ≠ 4) }

/-- What no command reaches: memory, the output so far, the sample domain, the stored samples and `wq_r`; and but
for SOFT_RESET the control and staging registers, the results of the receiver and every event flag except
`CMD_ERR` (R82, R89, R230, R244). -/
def Obligations.CommandsLeaveMemoryAndTheSampleDomainAlone : Prop :=
  ∀ (i : Instr) (s t : State), exec i s = .next t →
    MemKept s t ∧ OutsideKept s t ∧ (t.fifo.rptr = s.fifo.rptr ∨ t.fifo.rptr = s.fifo.wqR) ∧
      (i ≠ .softReset →
        t.ctrl = s.ctrl ∧ t.irqEn = s.irqEn ∧ t.staging = s.staging ∧ t.rxLen = s.rxLen ∧
          t.rxOkCount = s.rxOkCount ∧ t.blockCount = s.blockCount ∧ t.det = s.det ∧
          t.flags = { s.flags with cmdErr := t.flags.cmdErr } ∧
          RegsKept [.status, .err, .errCmd, .rxStatus, .rxFailCount, .slipRemain, .txStatus, .fifoLevel] s t)

/-! ## The bus -/

/-- A 32-bit write to a register: a read-write register stores the bits of its mask, `STATUS` clears the flags
written as 1, `CMD` executes the word, and a read-only register ignores the write with no error (R80). -/
def Obligations.RegisterWritesStoreTheNamedBits : Prop :=
  ∀ (s : State) (r : Reg) (d : Word),
    let off := BitVec.ofNat 12 r.offset
    (∀ mask, r.writeMask = some mask →
        ∃ t, hostWrite off 2#2 d s = .next t ∧ regRead t r = d &&& mask ∧
          t = { s with ctrl := t.ctrl, irqEn := t.irqEn, staging := t.staging, bus := .write false } ∧
          RegsKept [r] s t ∧ MemKept s t) ∧
      (r = .status →
        ∃ t, hostWrite off 2#2 d s = .next t ∧
          (∀ i, i < 6 →
            (regRead t .status).getLsbD (8 + i) = ((regRead s .status).getLsbD (8 + i) && !d.getLsbD (8 + i))) ∧
          t = { s with flags := t.flags, bus := .write false } ∧ RegsKept [.status] s t ∧ MemKept s t) ∧
      (r = .cmd → hostWrite off 2#2 d s = cmdWrite d (answerWrite s)) ∧
      (r.writeMask = none → r ≠ .status → r ≠ .cmd →
        hostWrite off 2#2 d s = .next { s with bus := .write false })

/-- A bus error is the answer to exactly these accesses: an illegal size, a misaligned offset, a narrow access to the
control region, an unmapped offset. It returns 0 on a read, sets `STATUS.BUS_ERR` and changes nothing else; every
other access is answered without error (R73, R76, R77, R78, R268). -/
def Obligations.BusErrorsAreExactlyTheRefusedAccesses : Prop :=
  ∀ (s : State) (off : BitVec 12) (size : BitVec 2) (d : Word),
    let bad :=
      size = 3#2 ∨ off.toNat % 2 ^ size.toNat ≠ 0 ∨
        (off.toNat < 0x100 ∧ (size ≠ 2#2 ∨ ∀ r : Reg, r.offset ≠ off.toNat)) ∨ 0x300 ≤ off.toNat
    (bad →
        hostRead off size s = { s with bus := .read 0#32 true, flags := { s.flags with busErr := true } } ∧
          hostWrite off size d s = .next { s with bus := .write true, flags := { s.flags with busErr := true } }) ∧
      (¬ bad →
        (∃ v, hostRead off size s = { s with bus := .read v false }) ∧
          ∃ t, hostWrite off size d s = .next t ∧ t.bus = .write false)

/-- A read has no side effect but the flag of a bus error, so a read that succeeds gives the same answer again; a
32-bit read of a register's offset answers the register's value (R74, R79, R81). -/
def Obligations.ReadsChangeNothingButTheBusErrorFlag : Prop :=
  ∀ (s : State) (off : BitVec 12) (size : BitVec 2),
    (let t := hostRead off size s
     t = { s with bus := t.bus, flags := { s.flags with busErr := t.flags.busErr } } ∧ MemKept s t ∧
        ∀ v, t.bus = .read v false → t.flags = s.flags ∧ hostRead off size t = t) ∧
      ∀ r : Reg, hostRead (BitVec.ofNat 12 r.offset) 2#2 s = { s with bus := .read (regRead s r) false }

/-- A write of `n` bytes to `TX_BUF` stores byte `i` of the data at the offset plus `i`, little-endian, ignores the
bytes at or past `P_MAX_PAYLOAD` and changes no other byte; the same read returns the stored bytes and 0 above
them (R55, R72, R74, R75). -/
def Obligations.TxBufIsLittleEndian : Prop :=
  ∀ (s : State) (off : BitVec 12) (size : BitVec 2) (n : Nat) (d : Word), s.mem.wf → accessBytes size = some n →
    off.toNat % n = 0 → 0x100 ≤ off.toNat → off.toNat < 0x200 →
    ∃ t v, hostWrite off size d s = .next t ∧ t = { s with mem := t.mem, bus := .write false } ∧ t.mem.wf ∧
      (∀ i, i < n → off.toNat + i < 0x100 + s.params.maxPayload →
        t.mem.read (off.toNat + i) = d.extractLsb' (8 * i) 8) ∧
      MemKeptOutside off.toNat n s t ∧ (∀ a, 0x100 + s.params.maxPayload ≤ a → t.mem.read a = s.mem.read a) ∧
      hostRead off size t = { t with bus := .read v false } ∧ v.toNat < 2 ^ (8 * n) ∧
      ∀ i, i < n →
        v.extractLsb' (8 * i) 8 =
          if off.toNat + i < 0x100 + s.params.maxPayload then d.extractLsb' (8 * i) 8 else 0#8

/-- `RX_BUF` is read-only to the host: no write of any width to any offset changes a byte of it. A read of either
buffer answers its bytes, 0 at or past `P_MAX_PAYLOAD` (R56, R74, R75, R89). -/
def Obligations.HostNeverWritesRxBuf : Prop :=
  ∀ (s : State) (off : BitVec 12) (size : BitVec 2) (n : Nat) (d : Word), s.mem.wf →
    (∀ t, hostWrite off size d s = .next t → ∀ j, t.mem.read (0x200 + j) = s.mem.read (0x200 + j)) ∧
      (accessBytes size = some n → off.toNat % n = 0 → 0x100 ≤ off.toNat → off.toNat < 0x300 →
        ∃ v, hostRead off size s = { s with bus := .read v false } ∧ v.toNat < 2 ^ (8 * n) ∧
          ∀ i, i < n →
            v.extractLsb' (8 * i) 8 =
              if (off.toNat + i) % 0x100 < s.params.maxPayload then s.mem.read (off.toNat + i) else 0#8)

/-- What a host reads from each register of the window: the bits of `STATUS`, the fields of `PARAMS`, `CTRL`, `IRQ_EN`,
`RX_STATUS`, `DET_RESULT`, `DET_E1`, `DET_E2`, `TX_STATUS` and `FIFO_LEVEL` with the codes the rules number, and the
stored value of the others (R24 to R39, R42 to R50, R79, R104). -/
def Obligations.StatusRegistersReadTheirFields : Prop :=
  ∀ s : State,
    (let w := regRead s .status
     w.getLsbD 0 = s.tx.busy ∧ w.getLsbD 1 = s.rxRun ∧ w.getLsbD 2 = s.cfgValid ∧
        w.getLsbD 3 = (s.rxRun && s.tx.busy && s.tx.half) ∧ w.getLsbD 4 = decide (s.dec.rxState = .doneHold) ∧
        w.extractLsb' 5 3 = 0#3 ∧ w.getLsbD 8 = s.flags.rxDone ∧ w.getLsbD 9 = s.flags.txDone ∧
        w.getLsbD 10 = s.flags.cmdErr ∧ w.getLsbD 11 = s.flags.overrun ∧ w.getLsbD 12 = s.flags.detValid ∧
        w.getLsbD 13 = s.flags.busErr ∧ w.extractLsb' 14 18 = 0#18) ∧
      (let w := regRead s .rxStatus
       (s.dec.rxState = .seekStart → w.extractLsb' 0 3 = 0#3) ∧ (s.dec.rxState = .readLen → w.extractLsb' 0 3 = 1#3) ∧
        (s.dec.rxState = .readPayload → w.extractLsb' 0 3 = 2#3) ∧ (s.dec.rxState = .readCrc → w.extractLsb' 0 3 = 3#3) ∧
        (s.dec.rxState = .seekEnd → w.extractLsb' 0 3 = 4#3) ∧ (s.dec.rxState = .doneHold → w.extractLsb' 0 3 = 5#3) ∧
        w.getLsbD 3 = false ∧ (s.dec.failReason = .none → w.extractLsb' 4 3 = 0#3) ∧
        (s.dec.failReason = .badLength → w.extractLsb' 4 3 = 1#3) ∧ (s.dec.failReason = .badCrc → w.extractLsb' 4 3 = 2#3) ∧
        (s.dec.failReason = .badEnd → w.extractLsb' 4 3 = 3#3) ∧ (s.dec.failReason = .lostSymbol → w.extractLsb' 4 3 = 4#3) ∧
        (s.dec.failReason = .paused → w.extractLsb' 4 3 = 5#3) ∧
        w.getLsbD 7 = false ∧ w.extractLsb' 8 8 = s.rxLen ∧ w.extractLsb' 16 16 = 0#16) ∧
      (let w := regRead s .detResult
       (s.det.kind = .symbol → w.extractLsb' 0 2 = 0#2) ∧ (s.det.kind = .noConfident → w.extractLsb' 0 2 = 1#2) ∧
        (s.det.kind = .silence → w.extractLsb' 0 2 = 2#2) ∧ (s.det.kind = .none → w.extractLsb' 0 2 = 3#2) ∧
        w.extractLsb' 2 2 = 0#2 ∧ w.extractLsb' 4 4 = s.det.symbol ∧ w.extractLsb' 8 24 = 0#24) ∧
      (regRead s .detE1Hi).toNat * 2 ^ 32 + (regRead s .detE1Lo).toNat = s.det.e1.toNat ∧
      (regRead s .detE2Hi).toNat * 2 ^ 32 + (regRead s .detE2Lo).toNat = s.det.e2.toNat ∧
      (let w := regRead s .ctrl
       w.getLsbD 0 = s.phaseCont ∧ w.getLsbD 1 = s.duplex ∧ w.getLsbD 2 = s.loopback ∧ w.extractLsb' 3 29 = 0#29) ∧
      regRead s .id = 0x474C4631#32 ∧ (regRead s .irqEn).toNat = s.irqEn.toNat * 2 ^ 8 ∧ regRead s .cmd = 0#32 ∧
      regRead s .err = s.err ∧ regRead s .errCmd = s.errCmd ∧
      (regRead s .baseHz).toNat = s.staging.base.toNat ∧ (regRead s .stepHz).toNat = s.staging.step.toNat ∧
      (regRead s .symbolCount).toNat = s.staging.symbolCount.toNat ∧
      (regRead s .sampleRate).toNat = s.staging.sampleRate.toNat ∧
      (regRead s .samplesPerBit).toNat = s.staging.samplesPerBit.toNat ∧
      (regRead s .amplitude).toNat = s.staging.amplitude.toNat ∧ (regRead s .tolerance).toNat = s.staging.tolerance.toNat ∧
      regRead s .noiseFloor = s.staging.noiseFloor ∧
      (regRead s .markers).toNat = s.staging.endMarker.toNat * 2 ^ 8 + s.staging.startMarker.toNat ∧
      regRead s .rxOkCount = s.rxOkCount ∧ regRead s .rxFailCount = s.rxFailCount ∧ regRead s .blockCount = s.blockCount ∧
      (regRead s .slipRemain).toNat = s.asm.slipRemain.toNat ∧
      (s.params.Legal →
        (regRead s .params).toNat = 16 * 2 ^ 16 + 8 * 2 ^ 12 + s.params.fifoLog2 * 2 ^ 8 + s.params.maxPayload) ∧
      (s.Inv →
        (s.tx.busy = true →
            (regRead s .txStatus).toNat % 2 ^ 16 = s.tx.items.length - s.tx.blockIdx ∧
              (regRead s .txStatus).toNat / 2 ^ 16 = s.tx.sampleIdx) ∧
          (s.tx.busy = false → regRead s .txStatus = 0#32) ∧ (regRead s .fifoLevel).toNat = s.rlevel)

/-- The interrupt line is the OR of the enabled flags in every state, so enabling a flag that is set raises it at
once (R272). -/
def Obligations.InterruptLineIsTheEnabledFlags : Prop :=
  (∀ s : State, s.irq = true ↔
      ∃ i, 8 ≤ i ∧ i ≤ 13 ∧ (regRead s .status).getLsbD i = true ∧ (regRead s .irqEn).getLsbD i = true) ∧
    ∀ (s t : State) (d : Word), hostWrite (BitVec.ofNat 12 Reg.irqEn.offset) 2#2 d s = .next t →
      (t.irq = true ↔ ∃ i, 8 ≤ i ∧ i ≤ 13 ∧ (regRead s .status).getLsbD i = true ∧ d.getLsbD i = true)

/-! ## Tone synthesizer -/

/-- The phase accumulator is exact: after `j` samples the phase is `(P0 + 256 f j) mod (256 FS)`, it stays below
`256 FS`, and with a legal plan it fits 32 bits and its sum 33 (R112). -/
def Obligations.PhaseAccumulatorIsExact : Prop :=
  (∀ fs f p0 j : Nat, p0 < 256 * fs →
      iterate (fun p => phaseStep fs p f) j p0 = (p0 + 256 * f * j) % (256 * fs) ∧ phaseStep fs p0 f < 256 * fs) ∧
    ∀ (p : Plan) (phase k : Nat), p.checks = 0#8 → phase < 256 * p.fs → k < p.m →
      phase < 2 ^ 32 ∧ phase + 256 * p.freq k < 2 ^ 33

/-- The table index is the integer nearest to `P / FS`, halves rounding up, modulo 256, with the rule's examples
(R113). -/
def Obligations.TableIndexIsTheNearestEntry : Prop :=
  (∀ fs phase : Nat, 0 < fs →
      ∃ q, lutIndex fs phase = q % 256 ∧ 2 * fs * q ≤ 2 * phase + fs ∧ 2 * phase + fs < 2 * fs * (q + 1)) ∧
    lutIndex 16000 0 = 0 ∧ lutIndex 16000 8000 = 1 ∧ lutIndex 16000 7999 = 0 ∧ lutIndex 16000 281600 = 18 ∧
    lutIndex 16000 4088000 = 0

/-- A sample is the table value times `AMP / 32768`, rounded to nearest with ties up; it saturates only above
`AMP = 0x8000`, with the rule's examples (R114). -/
def Obligations.SamplesAreScaledAndRounded : Prop :=
  (∀ (p : Plan) (phase : Nat),
      let v := lutAt (lutIndex p.fs phase)
      let x := (synthSample p phase).toInt
      x = min 32767 (max (-32768) ((v * p.amplitude.toNat + 16384) / 32768)) ∧
        (p.amplitude.toNat ≤ 0x8000 →
          65536 * x ≤ 2 * (v * p.amplitude.toNat) + 32768 ∧ 2 * (v * p.amplitude.toNat) + 32768 < 65536 * (x + 1) ∧
            -32767 ≤ x ∧ x ≤ 32767)) ∧
    scaledSample 0x4000#16 32767 = 16384 ∧ scaledSample 0x4000#16 (-32767) = -16383 ∧
    scaledSample 0x4000#16 804 = 402 ∧ scaledSample 0xFFFF#16 (-32767) = -32768 ∧
    ∀ v : Int, scaledSample 0#16 v = 0

/-- A transmission taken to the output port sample by sample emits exactly the samples of its blocks, in order:
tone blocks as `SynthBlock` from phase 0 or, with `PHASE_CONT = 1`, from where the last one ended, silent blocks as
zeros. It is busy until its last sample, then idle with `TX_DONE` set, and changes nothing else. Before each step the
port holds the sample the step emits. In every state the port is valid exactly while busy and out of loopback, and
holds what the next `TxStep` emits (R115, R116, R121, R219). -/
def Obligations.ATransmissionEmitsItsBlocks : Prop :=
  (∀ s : State, s.Inv → s.tx.busy = true → s.tx.blockIdx = 0 → s.tx.sampleIdx = 0 → s.loopback = false →
    let samples := renderItems s.active s.phaseCont s.tx.phase s.tx.items
    let total := s.tx.items.length * s.active.n
    let u := iterate txStep total s
    (∀ i, i < total →
        let m := iterate txStep i s
        m.tx.busy = true ∧ txStepEnabled m = true ∧ m.flags = s.flags ∧ txPort m = samples[i]? ∧
          m.txo = s.txo ++ samples.take i) ∧
      u.txo = s.txo ++ samples ∧ samples.length = total ∧ txPort u = none ∧
      u.tx = { TxEngine.reset with phase := u.tx.phase } ∧ u.flags = { s.flags with txDone := true } ∧
      u = { s with txo := u.txo, tx := u.tx, flags := u.flags }) ∧
    ∀ s : State,
      ((∃ x, txPort s = some x) ↔ s.tx.busy = true ∧ s.loopback = false) ∧
        ∀ x, txPort s = some x → ∃ t, runEvent .txStep s = .next t ∧ t.txo = s.txo ++ [x]

/-! ## Frequency detector -/

/-- The detector as a function of one block: the energies are those of the sums over the block against the
sine table at the reference phases, and the decision is made from them (R140). -/
def Obligations.DetectorSumsOverTheBlock : Prop :=
  ∀ (p : Plan) (xs : List Sample), p.m ≤ 16 →
    let phase := fun k j : Nat => 256 * p.freq k * j % (256 * p.fs)
    let sumI := fun k : Nat =>
      ∑ j ∈ Finset.range xs.length, (xs.getD j 0#16).toInt * lutAt (lutIndex p.fs (phase k j) + 64)
    let sumQ := fun k : Nat => ∑ j ∈ Finset.range xs.length, (xs.getD j 0#16).toInt * lutAt (lutIndex p.fs (phase k j))
    let energy := fun k : Nat => ((sumI k / 32768) ^ 2 + (sumQ k / 32768) ^ 2).toNat
    let es := (List.range p.m).map energy
    let power := (∑ j ∈ Finset.range xs.length, (xs.getD j 0#16).toInt ^ 2).toNat
    detectBlock p xs =
      { kind := decideKind p power (maxOf es) (secondEnergy es), k1 := strongest es, e1 := maxOf es,
        e2 := secondEnergy es }

/-- `k1` is the smallest index of the largest energy; `E2` is the largest energy of the other lanes, equal to `E1` on
a tie (R134). -/
def Obligations.StrongestAndSecondEnergy : Prop :=
  ∀ es : List Nat, 2 ≤ es.length →
    let k1 := strongest es
    k1 < es.length ∧ es.getD k1 0 = maxOf es ∧ (∀ j, j < es.length → es.getD j 0 ≤ es.getD k1 0) ∧
      (∀ j, j < k1 → es.getD j 0 < es.getD k1 0) ∧ (∀ j, j < es.length → j ≠ k1 → es.getD j 0 ≤ secondEnergy es) ∧
      ∃ j, j < es.length ∧ j ≠ k1 ∧ es.getD j 0 = secondEnergy es

/-- The decision: a block is silent iff its power divided by 65536 is below `NF`; otherwise it is ambiguous iff the
second-best magnitude is within the relative tolerance `TOL / 256` of the best, as real magnitudes; otherwise it
carries the symbol. Equal energies are never decided (R135, R136, R137). -/
def Obligations.AmbiguityIsARelativeTolerance : Prop :=
  ∀ (p : Plan) (power e1 e2 : Nat),
    (decideKind p power e1 e2 = .silence ↔ power / 65536 < p.noiseFloor.toNat) ∧
      (decideKind p power e1 e2 = .noConfident ↔
        p.noiseFloor.toNat ≤ power / 65536 ∧
          (1 - (p.tolerance.toNat : ℝ) / 256) * Real.sqrt (e1 : ℝ) ≤ Real.sqrt (e2 : ℝ)) ∧
      (decideKind p power e1 e2 = .symbol ↔
        p.noiseFloor.toNat ≤ power / 65536 ∧
          Real.sqrt (e2 : ℝ) < (1 - (p.tolerance.toNat : ℝ) / 256) * Real.sqrt (e1 : ℝ)) ∧
      decideKind p power e1 e1 ≠ .symbol

/-- The `N`-th sample of a block ends it: the result registers hold the decision without loss, `BLOCK_COUNT` and
`DET_VALID` are set, the bank is cleared, and then the decoder is fed; nothing else changes (R138, R190). -/
def Obligations.TheLastSampleEndsTheBlock : Prop :=
  ∀ (s : State) (x : Sample), s.Inv → s.asm.slipRemain = 0#16 → s.asm.cnt + 1 = s.active.n →
    let d := (s.asm.laneUpdate s.active x).decision s.active
    let u : State :=
      { s with
        asm := Assembler.reset, blockCount := s.blockCount + 1#32, flags := { s.flags with detValid := true },
        det := { kind := d.kind, symbol := BitVec.ofNat 4 d.k1, e1 := BitVec.ofNat 64 d.e1, e2 := BitVec.ofNat 64 d.e2 } }
    let t := assemble x s
    t = decoderFeed d.kind d.k1 u ∧ t.det.kind = d.kind ∧ t.det.symbol.toNat = d.k1 ∧ t.det.e1.toNat = d.e1 ∧
      t.det.e2.toNat = d.e2 ∧ d.k1 < s.active.m ∧
      t = { u with
            dec := t.dec, rxFailCount := t.rxFailCount, rxOkCount := t.rxOkCount, mem := t.mem, rxLen := t.rxLen,
            flags := { u.flags with rxDone := t.flags.rxDone } }

/-- No accumulator of the detector can leave its width, so unbounded integers give the hardware's values (R139). -/
def Obligations.DetectorAccumulatorsFitTheirWidths : Prop :=
  ∀ (s : State) (x : Sample), s.Inv →
    let a := s.asm.laneUpdate s.active x
    let d := a.decision s.active
    (∀ i : Nat, (x.toInt * lutAt i).natAbs < 2 ^ 30) ∧
      (∀ k : Fin 16,
        a.lanes[k].inPhase.natAbs < 2 ^ 46 ∧ a.lanes[k].quad.natAbs < 2 ^ 46 ∧
          (asr a.lanes[k].inPhase 15).natAbs ≤ 2 ^ 31 ∧ (asr a.lanes[k].quad 15).natAbs ≤ 2 ^ 31 ∧
          a.lanes[k].phase < 2 ^ 32 ∧ a.lanes[k].energy ≤ 2 ^ 63) ∧
      a.power ≤ 65535 * 2 ^ 30 ∧ a.power < 2 ^ 46 ∧ 65536 * d.e2 ≤ 2 ^ 79 ∧
      (256 - s.active.tolerance.toNat) ^ 2 * d.e1 ≤ 2 ^ 16 * 2 ^ 63

/-- With the reference configuration the block synthesized for each symbol is decided as that symbol (R217). -/
def Obligations.ReferenceTonesAreDecidedAsTheirSymbols : Prop :=
  ∀ k : Fin 2,
    (detectBlock Plan.reset (synthBlock Plan.reset k 0)).kind = .symbol ∧
      (detectBlock Plan.reset (synthBlock Plan.reset k 0)).k1 = k

/-- Samples assembled from an empty block are decided as whole blocks: after `N` of them the state is that of the
decoder fed with `DetectBlock` of those samples, and no earlier sample touches anything but the assembler
(R138, R140, R190). -/
def Obligations.WholeBlocksAreDecidedAsDetectBlock : Prop :=
  ∀ (s : State) (xs : List Sample), s.asm = Assembler.reset → xs.length = s.active.n → 0 < s.active.n →
    let d := detectBlock s.active xs
    assembleAll xs s =
        decoderFeed d.kind d.k1
          { s with
            det := d.registers, blockCount := s.blockCount + 1#32, flags := { s.flags with detValid := true } } ∧
      ∀ i, i < s.active.n →
        let m := assembleAll (xs.take i) s
        m.asm.cnt = i ∧ m = { s with asm := m.asm }

/-! ## Packet codec -/

/-- Changing one payload byte, and so flipping any one bit of it, changes the CRC (R151, R152). -/
def Obligations.CrcDetectsAChangedPayloadByte : Prop :=
  ∀ (p q : List Byte) (d e : Byte), d ≠ e → crc16 (p ++ d :: q) ≠ crc16 (p ++ e :: q)

/-- The bits of a frame, field by field, each most significant first; the symbols are its groups of `b` bits, the
first bit most significant, `8 (n + 5) / b` of them (R101, R153, R154). -/
def Obligations.FrameSymbolsAreTheGroupedFrameBits : Prop :=
  ∀ (a : Plan) (b : Nat) (p : List Byte), b = 1 ∨ b = 2 ∨ b = 4 → p.length ≤ 255 →
    let bits := frameBits a p
    bits =
        bitsMsb 8 a.startMarker.toNat ++ bitsMsb 8 p.length ++ (p.map fun v => bitsMsb 8 v.toNat).flatten
          ++ bitsMsb 16 (crc16 p).toNat ++ bitsMsb 8 a.endMarker.toNat ∧
      (frameSymbols a b p).length = 8 * (p.length + 5) / b ∧
      ∀ j, j < 8 * (p.length + 5) / b →
        (frameSymbols a b p)[j]? =
          some (∑ t ∈ Finset.range b, (bits.getD (j * b + t) false).toNat <<< (b - 1 - t))

/-- Inside a packet the marker search never restarts: the decoder stays, goes to the next field, or returns to
SEEK_START by a failure it counts or by a delivery it counts; and then the rest of the symbol is discarded (R171). -/
def Obligations.OnlyFailureOrDeliveryLeavesAPacket : Prop :=
  ∀ (s : State) (v : Bool), s.dec.rxState ≠ .seekStart → s.dec.rxState ≠ .doneHold →
    let r := decoderBit v s
    (r.2 = .more →
        r.1.dec.rxState = s.dec.rxState ∨ (s.dec.rxState = .readLen ∧ r.1.dec.rxState = .readPayload) ∨
          (s.dec.rxState = .readPayload ∧ r.1.dec.rxState = .readCrc) ∨
          (s.dec.rxState = .readCrc ∧ r.1.dec.rxState = .seekEnd)) ∧
      (r.2 = .stop →
        (r.1.dec.rxState = .seekStart ∧ r.1.rxFailCount = s.rxFailCount + 1#32 ∧ r.1.rxOkCount = s.rxOkCount ∧
            (r.1.dec.failReason = .badLength ∨ r.1.dec.failReason = .badCrc ∨ r.1.dec.failReason = .badEnd)) ∨
          (s.dec.rxState = .seekEnd ∧ r.1.rxFailCount = s.rxFailCount ∧
            ((r.1.dec.rxState = .seekStart ∧ r.1.rxOkCount = s.rxOkCount + 1#32) ∨
              (r.1.dec.rxState = .doneHold ∧ s.flags.rxDone = true))))

/-- A searching decoder with any window, fed the frame of `p`, delivers `p` exactly once, at the frame's last
symbol, when the start marker has no border and the previous packet was taken (R172). -/
def Obligations.AFrameIsDeliveredExactlyOnce : Prop :=
  ∀ (s : State) (b : Nat) (p : List Byte), s.mem.wf → s.dec.rxState = .seekStart → s.flags.rxDone = false →
    s.active.bps = some b → NoBorder s.active.startMarker → 1 ≤ p.length → p.length ≤ s.params.maxPayload →
    s.params.maxPayload ≤ 255 →
    let ks := frameSymbols s.active b p
    let t := feedSymbols ks s
    t.flags = { s.flags with rxDone := true } ∧ t.rxLen.toNat = p.length ∧ t.rxOkCount = s.rxOkCount + 1#32 ∧
      (∀ j, (h : j < p.length) → t.mem.read (0x200 + j) = p[j]) ∧ MemKeptOutside 0x200 p.length s t ∧
      DecoderCleared s.dec t.dec ∧
      t = { s with dec := t.dec, mem := t.mem, rxLen := t.rxLen, rxOkCount := t.rxOkCount, flags := t.flags } ∧
      ∀ i, i < ks.length →
        let m := feedSymbols (ks.take i) s
        m = { s with dec := m.dec }

/-- A frame whose integrity field differs from the CRC of its payload is not delivered: it fails once with BAD_CRC,
and the end marker that follows starts nothing while it differs from the start marker (R167, R173). -/
def Obligations.AWrongIntegrityFieldIsNeverDelivered : Prop :=
  ∀ (s : State) (b : Nat) (p : List Byte) (c : BitVec 16), s.dec.rxState = .seekStart → s.active.bps = some b →
    NoBorder s.active.startMarker → s.active.endMarker ≠ s.active.startMarker → 1 ≤ p.length →
    p.length ≤ s.params.maxPayload → s.params.maxPayload ≤ 255 → c ≠ crc16 p →
    let t := feedSymbols (frameSymbolsWith s.active b c p) s
    t.dec.rxState = .seekStart ∧ t.dec.failReason = .badCrc ∧ t.rxFailCount = s.rxFailCount + 1#32 ∧
      t = { s with dec := t.dec, rxFailCount := t.rxFailCount }

/-- A decoder outcome without a delivery is not surfaced: no flag, no error register, no interrupt, no byte of
`RX_BUF` and no `RX_LEN` changes, whatever failed; the same for the failure a pause causes (R141, R269). -/
def Obligations.DecoderFailuresAreNotSurfaced : Prop :=
  (∀ (kind : DetKind) (k1 : Nat) (s : State),
      let t := decoderFeed kind k1 s
      t.rxOkCount = s.rxOkCount →
        t = { s with dec := t.dec, rxFailCount := t.rxFailCount } ∧ t.irq = s.irq ∧ MemKept s t) ∧
    ∀ s : State,
      let t := pauseEnter s
      t = { s with asm := t.asm, dec := t.dec, rxFailCount := t.rxFailCount } ∧ t.irq = s.irq ∧ MemKept s t

/-! ## Delivery -/

/-- A delivery copies the payload to `RX_BUF`, leaves its other bytes, sets `RX_LEN` and `RX_DONE`, counts, and
clears the decoder, and nothing else. It is what a completed packet does while `RX_DONE` is 0, and what
`DeliverHeld` does (R198). -/
def Obligations.DeliveryWritesThePacket : Prop :=
  ∀ s : State, s.mem.wf → s.dec.pay.length = s.dec.plen → s.dec.plen ≤ 255 →
    let t := deliver s
    (∀ i, (h : i < s.dec.pay.length) → t.mem.read (0x200 + i) = s.dec.pay[i]) ∧
      MemKeptOutside 0x200 s.dec.plen s t ∧ t.rxLen.toNat = s.dec.plen ∧ t.flags = { s.flags with rxDone := true } ∧
      t.rxOkCount = s.rxOkCount + 1#32 ∧ DecoderCleared s.dec t.dec ∧
      t = { s with dec := t.dec, mem := t.mem, rxLen := t.rxLen, rxOkCount := t.rxOkCount, flags := t.flags } ∧
      (s.flags.rxDone = false → packetDone s = t) ∧
      (deliverHeldEnabled s = true → runEvent .deliverHeld s = .next t)

/-- A held packet is delivered by `DeliverHeld` once `RX_DONE` is clear, running or not, which returns the decoder to
SEEK_START; no other step of any agent changes it but SOFT_RESET and `rst` (R199). -/
def Obligations.AHeldPacketWaitsForTheHost : Prop :=
  ∀ s : State, s.dec.rxState = .doneHold →
    (deliverHeldEnabled s = true ↔ s.flags.rxDone = false) ∧
      (s.flags.rxDone = false →
        runEvent .deliverHeld s = .next (deliver s) ∧ (deliver s).dec.rxState = .seekStart) ∧
      ∀ (e : Event) (t : State), runEvent e s = .next t →
        t.dec = s.dec ∨ (e = .deliverHeld ∧ s.flags.rxDone = false) ∨ e = .rst ∨ e = commandEvent 0x02000000#32

/-- From the moment `RX_DONE` is 1 no step of any agent changes a byte of `RX_BUF`, and none but SOFT_RESET and
`rst` changes `RX_LEN`; a packet completed in that time waits in DONE_HOLD with its payload (R89, R197). -/
def Obligations.ADeliveredPacketIsStable : Prop :=
  (∀ (s t : State) (e : Event), s.mem.wf → s.flags.rxDone = true → runEvent e s = .next t →
      (∀ j, t.mem.read (0x200 + j) = s.mem.read (0x200 + j)) ∧
        (t.rxLen = s.rxLen ∨ e = .rst ∨ e = commandEvent 0x02000000#32)) ∧
    ∀ s : State, s.flags.rxDone = true →
      packetDone s = { s with dec := { s.dec with rxState := .doneHold } }

/-! ## Capture pipeline -/

/-- The Gray code: converting back gives the pointer, and neighbouring pointers differ in exactly one bit, also at
the wrap (R182). -/
def Obligations.GrayCodeRoundTripsAndChangesOneBit : Prop :=
  ∀ d v : Nat, v < 2 ^ (d + 1) →
    gray v < 2 ^ (d + 1) ∧ grayToBin d (gray v) = v ∧ ∃ i, i ≤ d ∧ gray v ^^^ gray (ptrNext d v) = 2 ^ i

/-- The elastic buffer is a queue: a push appends, or is dropped with `OVERRUN` and no other effect when the writer
sees it full; a pop takes the oldest sample; a synchronizer copies the pointer and moves no sample (R184 to R187). -/
def Obligations.TheElasticBufferIsAQueue : Prop :=
  ∀ (s : State) (x : Sample), s.Inv →
    (s.wlevel = 2 ^ s.params.fifoLog2 → srcPush x s = { s with flags := { s.flags with overrun := true } }) ∧
      (s.wlevel ≠ 2 ^ s.params.fifoLog2 →
        fifoContents (srcPush x s) = fifoContents s ++ [x] ∧ srcPush x s = { s with fifo := (srcPush x s).fifo }) ∧
      (rxPopEnabled s = true → fifoContents s = popSample s :: fifoContents (rxPop s)) ∧
      syncW2R s = { s with fifo := { s.fifo with wqR := s.fifo.wptr } } ∧
      syncR2W s = { s with fifo := { s.fifo with rqW := s.fifo.rptr } } ∧
      fifoContents (syncW2R s) = fifoContents s ∧ fifoContents (syncR2W s) = fifoContents s ∧
      (fifoContents s).length ≤ 2 ^ s.params.fifoLog2

/-- When `RxPop` is enabled, and what becomes of a popped sample: assembled when the receiver is open and not in
loopback, discarded otherwise; a held receiver that would assemble it does not pop (R187, R189). -/
def Obligations.PoppedSamplesAreAssembledOrDiscarded : Prop :=
  ∀ s : State,
    let x := Sparse.read Slots.unlisted s.fifo.slots (s.fifo.rptr % 2 ^ s.params.fifoLog2)
    let u : State := { s with fifo := { s.fifo with rptr := (s.fifo.rptr + 1) % 2 ^ (s.params.fifoLog2 + 1) } }
    (rxPopEnabled s = true ↔
        s.fifo.rptr ≠ s.fifo.wqR ∧
          ¬ (s.rxRun = true ∧ s.paused = false ∧ s.loopback = false ∧ s.dec.rxState = .doneHold)) ∧
      (s.rxRun = false ∨ s.paused = true ∨ s.loopback = true → rxPop s = u) ∧
      (s.rxRun = true → s.paused = false → s.loopback = false → rxPop s = assemble x u)

/-- While a half-duplex transmission pauses the receiver, or a packet is held, no core step assembles a sample: the
assembler, the detector results and `BLOCK_COUNT` stay as they are (R188, R213). -/
def Obligations.PauseAndHoldStopTheAssembler : Prop :=
  ∀ (s t : State) (e : Event), s.paused = true ∨ s.dec.rxState = .doneHold → eventOfCore e = true →
    runEvent e s = .next t → t.asm = s.asm ∧ t.det = s.det ∧ t.blockCount = s.blockCount

/-- A slip discards exactly its count of assembled samples: they touch nothing but the count, and the sample after
them is the next of the current block (R190, R192, R243). -/
def Obligations.ASlipDiscardsExactlyItsCount : Prop :=
  ∀ (s : State) (xs : List Sample) (x : Sample), xs.length ≤ s.asm.slipRemain.toNat →
    let t := assembleAll xs s
    t.asm.slipRemain.toNat = s.asm.slipRemain.toNat - xs.length ∧
      t = { s with asm := { s.asm with slipRemain := t.asm.slipRemain } } ∧
      (xs.length = s.asm.slipRemain.toNat → s.asm.cnt + 1 ≠ s.active.n → (assemble x t).asm.cnt = s.asm.cnt + 1)

/-! ## The machine -/

/-- The invariant holds at power-on, for every legal pair of parameters and every draw of the RAM contents, and
so at the model's reset state (R59, R290; log entries 2 and 5). -/
def Obligations.TheInvariantHoldsAtPowerOn : Prop :=
  (∀ (params : Params) (mem : Memory) (slots : Slots), params.Legal → mem.wf →
      (∀ c ∈ mem, ramOffset params c.1) → Sparse.wf Slots.unlisted slots →
      (∀ c ∈ slots, c.1 < 2 ^ params.fifoLog2) → (State.powerOn params mem slots).Inv) ∧
    State.reset.Inv

/-- Every step of every agent keeps the invariant: canonical memory, a legal active configuration, every element in
its range, the elastic buffer's relations, the bounds of the accumulators, and an empty receiver while nothing is
assembled (R51 to R54, R139, R186, R214). -/
def Obligations.EveryStepKeepsTheInvariant : Prop :=
  ∀ s t : State, s.Inv → step s = .next t → t.Inv

/-- The active configuration and `CFG_VALID` change only by a CONFIGURE or SOFT_RESET word written to `CMD`, or by
`rst`; in particular no write to a configuration register changes them. The parameters never change, so the window stays the
4096 bytes from `P_BASE_ADDR` (R6, R23, R40, R41, R70). -/
def Obligations.OnlyConfigureAndResetsChangeTheConfiguration : Prop :=
  ∀ (e : Event) (s t : State), runEvent e s = .next t →
    t.params = s.params ∧
      (∀ (addr : Nat) (off : BitVec 12), windowOffset t.params addr = some off ↔ addr = s.params.baseAddr + off.toNat) ∧
      ((t.active = s.active ∧ t.cfgValid = s.cfgValid) ∨ e = commandEvent 0x01000000#32 ∨
        e = commandEvent 0x02000000#32 ∨ e = .rst)

/-- `rst` gives every register its reset value and every hidden element of both domains its own, and keeps the
contents of `TX_BUF`, `RX_BUF` and `fifo[]` and the samples the output already took (R245, R290, R291, R293). -/
def Obligations.ResetGivesEveryElementItsResetValue : Prop :=
  ∀ s : State,
    ∃ t, runEvent .rst s = .next t ∧
      (∀ r : Reg, r ≠ .params ∨ s.params = Params.reference s.params.baseAddr → regRead t r = r.resetValue) ∧
      t.irq = false ∧ txPort t = none ∧
      t.active = Plan.reset ∧ t.cfgValid = true ∧ t.rxRun = false ∧ t.tx = TxEngine.reset ∧
      t.asm = Assembler.reset ∧ t.dec = Decoder.reset ∧
      t.fifo = { slots := s.fifo.slots, wptr := 0, rptr := 0, wqR := 0, rqW := 0 } ∧ t.params = s.params ∧
      t.txo = s.txo ∧ MemKept s t

/-- Left to the core and the synchronizers, with the output side ready, the machine always becomes quiescent: there
is no endless run of enabled core steps (R306). -/
def Obligations.TheCoreAlwaysBecomesQuiescent : Prop :=
  (∀ run : Nat → State, (run 0).Inv → ¬ ∀ i, CoreStep (run i) (run (i + 1))) ∧
    ∀ s : State, Quiescent s ↔ ∀ t, ¬ CoreStep s t

/-- The loopback round trip: a running receiver at a block boundary, fed by its own transmitter, delivers the payload
of a TX_FRAME exactly once, at the transmission's last sample, in every configuration in which each tone block
from phase 0 is decided as its own symbol (R211, R216, R217). -/
def Obligations.LoopbackDeliversWhatIsSent : Prop :=
  ∀ (s t : State) (len : Nat), s.Inv → s.rxRun = true → s.tx.busy = false → s.loopback = true →
    s.phaseCont = false → s.asm = Assembler.reset → s.dec.rxState = .seekStart → s.flags.rxDone = false →
    NoBorder s.active.startMarker →
    (∀ k, k < s.active.m →
      (detectBlock s.active (synthBlock s.active k 0)).kind = .symbol ∧
        (detectBlock s.active (synthBlock s.active k 0)).k1 = k) →
    exec (.txFrame len) s = .next t → t.tx.busy = true →
    let total := t.tx.items.length * s.active.n
    let u := iterate txStep total t
    u.tx.busy = false ∧ u.flags.txDone = true ∧ u.flags.rxDone = true ∧ u.rxLen.toNat = len ∧
      (∀ j, j < len → u.mem.read (0x200 + j) = s.mem.read (0x100 + j)) ∧ MemKeptOutside 0x200 len s u ∧
      u.rxOkCount = s.rxOkCount + 1#32 ∧ u.rxFailCount = s.rxFailCount ∧ u.txo = s.txo ∧
      u.blockCount = s.blockCount + BitVec.ofNat 32 t.tx.items.length ∧
      ∀ i, i < total →
        let m := iterate txStep i t
        txStepEnabled m = true ∧ m.flags.rxDone = false ∧ m.rxOkCount = s.rxOkCount ∧ MemKept s m

/-- Under weak fairness a held packet is delivered once the host has cleared `RX_DONE`, whatever the host, the
converters and the other agents do meanwhile, unless SOFT_RESET or `rst` discards it; the output side owes nothing to
this. Where the output side eventually accepts every sample, a transmission to it ends: with its last sample and
`TX_DONE`, unless the host ends it by TX_ABORT, SOFT_RESET or `rst` (R199, R305, R307). -/
def Obligations.AFairRunDeliversAHeldPacket : Prop :=
  (∀ (ev : Nat → Event) (run : Nat → State) (i : Nat), AgentRun ev run → WeaklyFair ev run →
    (run i).dec.rxState = .doneHold → (run i).flags.rxDone = false →
    (∀ j, i ≤ j → ev j ≠ .rst ∧ ev j ≠ commandEvent 0x02000000#32) →
    ∃ j, i ≤ j ∧ ev j = .deliverHeld ∧ run (j + 1) = deliver (run j) ∧
      ∀ n, i ≤ n → n ≤ j → (run n).dec = (run i).dec ∧ (run n).flags.rxDone = false) ∧
    ∀ (ev : Nat → Event) (run : Nat → State) (i : Nat), AgentRun ev run → OutputAccepts ev run → (run i).Inv →
      (run i).tx.busy = true → (∀ j, i ≤ j → (run j).loopback = false) →
      ∃ j, i ≤ j ∧ (∀ n, i ≤ n → n ≤ j → (run n).tx.busy = true) ∧ (run (j + 1)).tx.busy = false ∧
        ((ev j = .txStep ∧ (run (j + 1)).flags.txDone = true) ∨ ev j = commandEvent 0x13000000#32 ∨
          ev j = commandEvent 0x02000000#32 ∨ ev j = .rst)
end

