-- ==== Sys2Proof/Laws/State.lean ====
section
/-! SUPPORT. One lemma per field for each shared update of the state, true by `rfl`, so that no proof unfolds a
record update. -/

namespace Sys2Proof.Machine

/-! ## answerRead -/

@[simp] theorem answerRead_params (v : Word) (s : State) : (answerRead v s).params = s.params := rfl
@[simp] theorem answerRead_ctrl (v : Word) (s : State) : (answerRead v s).ctrl = s.ctrl := rfl
@[simp] theorem answerRead_flags (v : Word) (s : State) : (answerRead v s).flags = s.flags := rfl
@[simp] theorem answerRead_irqEn (v : Word) (s : State) : (answerRead v s).irqEn = s.irqEn := rfl
@[simp] theorem answerRead_err (v : Word) (s : State) : (answerRead v s).err = s.err := rfl
@[simp] theorem answerRead_errCmd (v : Word) (s : State) : (answerRead v s).errCmd = s.errCmd := rfl
@[simp] theorem answerRead_staging (v : Word) (s : State) : (answerRead v s).staging = s.staging := rfl
@[simp] theorem answerRead_active (v : Word) (s : State) : (answerRead v s).active = s.active := rfl
@[simp] theorem answerRead_cfgValid (v : Word) (s : State) : (answerRead v s).cfgValid = s.cfgValid := rfl
@[simp] theorem answerRead_rxRun (v : Word) (s : State) : (answerRead v s).rxRun = s.rxRun := rfl
@[simp] theorem answerRead_rxLen (v : Word) (s : State) : (answerRead v s).rxLen = s.rxLen := rfl
@[simp] theorem answerRead_rxOkCount (v : Word) (s : State) : (answerRead v s).rxOkCount = s.rxOkCount := rfl
@[simp] theorem answerRead_rxFailCount (v : Word) (s : State) : (answerRead v s).rxFailCount = s.rxFailCount := rfl
@[simp] theorem answerRead_blockCount (v : Word) (s : State) : (answerRead v s).blockCount = s.blockCount := rfl
@[simp] theorem answerRead_det (v : Word) (s : State) : (answerRead v s).det = s.det := rfl
@[simp] theorem answerRead_dec (v : Word) (s : State) : (answerRead v s).dec = s.dec := rfl
@[simp] theorem answerRead_asm (v : Word) (s : State) : (answerRead v s).asm = s.asm := rfl
@[simp] theorem answerRead_tx (v : Word) (s : State) : (answerRead v s).tx = s.tx := rfl
@[simp] theorem answerRead_fifo (v : Word) (s : State) : (answerRead v s).fifo = s.fifo := rfl
@[simp] theorem answerRead_mem (v : Word) (s : State) : (answerRead v s).mem = s.mem := rfl
@[simp] theorem answerRead_txo (v : Word) (s : State) : (answerRead v s).txo = s.txo := rfl
@[simp] theorem answerRead_bus (v : Word) (s : State) : (answerRead v s).bus = .read v false := rfl
@[simp] theorem answerRead_sched (v : Word) (s : State) : (answerRead v s).sched = s.sched := rfl
@[simp] theorem answerRead_turn (v : Word) (s : State) : (answerRead v s).turn = s.turn := rfl

/-! ## answerWrite -/

@[simp] theorem answerWrite_params (s : State) : (answerWrite s).params = s.params := rfl
@[simp] theorem answerWrite_ctrl (s : State) : (answerWrite s).ctrl = s.ctrl := rfl
@[simp] theorem answerWrite_flags (s : State) : (answerWrite s).flags = s.flags := rfl
@[simp] theorem answerWrite_irqEn (s : State) : (answerWrite s).irqEn = s.irqEn := rfl
@[simp] theorem answerWrite_err (s : State) : (answerWrite s).err = s.err := rfl
@[simp] theorem answerWrite_errCmd (s : State) : (answerWrite s).errCmd = s.errCmd := rfl
@[simp] theorem answerWrite_staging (s : State) : (answerWrite s).staging = s.staging := rfl
@[simp] theorem answerWrite_active (s : State) : (answerWrite s).active = s.active := rfl
@[simp] theorem answerWrite_cfgValid (s : State) : (answerWrite s).cfgValid = s.cfgValid := rfl
@[simp] theorem answerWrite_rxRun (s : State) : (answerWrite s).rxRun = s.rxRun := rfl
@[simp] theorem answerWrite_rxLen (s : State) : (answerWrite s).rxLen = s.rxLen := rfl
@[simp] theorem answerWrite_rxOkCount (s : State) : (answerWrite s).rxOkCount = s.rxOkCount := rfl
@[simp] theorem answerWrite_rxFailCount (s : State) : (answerWrite s).rxFailCount = s.rxFailCount := rfl
@[simp] theorem answerWrite_blockCount (s : State) : (answerWrite s).blockCount = s.blockCount := rfl
@[simp] theorem answerWrite_det (s : State) : (answerWrite s).det = s.det := rfl
@[simp] theorem answerWrite_dec (s : State) : (answerWrite s).dec = s.dec := rfl
@[simp] theorem answerWrite_asm (s : State) : (answerWrite s).asm = s.asm := rfl
@[simp] theorem answerWrite_tx (s : State) : (answerWrite s).tx = s.tx := rfl
@[simp] theorem answerWrite_fifo (s : State) : (answerWrite s).fifo = s.fifo := rfl
@[simp] theorem answerWrite_mem (s : State) : (answerWrite s).mem = s.mem := rfl
@[simp] theorem answerWrite_txo (s : State) : (answerWrite s).txo = s.txo := rfl
@[simp] theorem answerWrite_bus (s : State) : (answerWrite s).bus = .write false := rfl
@[simp] theorem answerWrite_sched (s : State) : (answerWrite s).sched = s.sched := rfl
@[simp] theorem answerWrite_turn (s : State) : (answerWrite s).turn = s.turn := rfl

/-! ## readError -/

@[simp] theorem readError_params (s : State) : (readError s).params = s.params := rfl
@[simp] theorem readError_ctrl (s : State) : (readError s).ctrl = s.ctrl := rfl
@[simp] theorem readError_flags (s : State) : (readError s).flags = { s.flags with busErr := true } := rfl
@[simp] theorem readError_irqEn (s : State) : (readError s).irqEn = s.irqEn := rfl
@[simp] theorem readError_err (s : State) : (readError s).err = s.err := rfl
@[simp] theorem readError_errCmd (s : State) : (readError s).errCmd = s.errCmd := rfl
@[simp] theorem readError_staging (s : State) : (readError s).staging = s.staging := rfl
@[simp] theorem readError_active (s : State) : (readError s).active = s.active := rfl
@[simp] theorem readError_cfgValid (s : State) : (readError s).cfgValid = s.cfgValid := rfl
@[simp] theorem readError_rxRun (s : State) : (readError s).rxRun = s.rxRun := rfl
@[simp] theorem readError_rxLen (s : State) : (readError s).rxLen = s.rxLen := rfl
@[simp] theorem readError_rxOkCount (s : State) : (readError s).rxOkCount = s.rxOkCount := rfl
@[simp] theorem readError_rxFailCount (s : State) : (readError s).rxFailCount = s.rxFailCount := rfl
@[simp] theorem readError_blockCount (s : State) : (readError s).blockCount = s.blockCount := rfl
@[simp] theorem readError_det (s : State) : (readError s).det = s.det := rfl
@[simp] theorem readError_dec (s : State) : (readError s).dec = s.dec := rfl
@[simp] theorem readError_asm (s : State) : (readError s).asm = s.asm := rfl
@[simp] theorem readError_tx (s : State) : (readError s).tx = s.tx := rfl
@[simp] theorem readError_fifo (s : State) : (readError s).fifo = s.fifo := rfl
@[simp] theorem readError_mem (s : State) : (readError s).mem = s.mem := rfl
@[simp] theorem readError_txo (s : State) : (readError s).txo = s.txo := rfl
@[simp] theorem readError_bus (s : State) : (readError s).bus = .read 0#32 true := rfl
@[simp] theorem readError_sched (s : State) : (readError s).sched = s.sched := rfl
@[simp] theorem readError_turn (s : State) : (readError s).turn = s.turn := rfl

/-! ## writeError -/

@[simp] theorem writeError_params (s : State) : (writeError s).params = s.params := rfl
@[simp] theorem writeError_ctrl (s : State) : (writeError s).ctrl = s.ctrl := rfl
@[simp] theorem writeError_flags (s : State) : (writeError s).flags = { s.flags with busErr := true } := rfl
@[simp] theorem writeError_irqEn (s : State) : (writeError s).irqEn = s.irqEn := rfl
@[simp] theorem writeError_err (s : State) : (writeError s).err = s.err := rfl
@[simp] theorem writeError_errCmd (s : State) : (writeError s).errCmd = s.errCmd := rfl
@[simp] theorem writeError_staging (s : State) : (writeError s).staging = s.staging := rfl
@[simp] theorem writeError_active (s : State) : (writeError s).active = s.active := rfl
@[simp] theorem writeError_cfgValid (s : State) : (writeError s).cfgValid = s.cfgValid := rfl
@[simp] theorem writeError_rxRun (s : State) : (writeError s).rxRun = s.rxRun := rfl
@[simp] theorem writeError_rxLen (s : State) : (writeError s).rxLen = s.rxLen := rfl
@[simp] theorem writeError_rxOkCount (s : State) : (writeError s).rxOkCount = s.rxOkCount := rfl
@[simp] theorem writeError_rxFailCount (s : State) : (writeError s).rxFailCount = s.rxFailCount := rfl
@[simp] theorem writeError_blockCount (s : State) : (writeError s).blockCount = s.blockCount := rfl
@[simp] theorem writeError_det (s : State) : (writeError s).det = s.det := rfl
@[simp] theorem writeError_dec (s : State) : (writeError s).dec = s.dec := rfl
@[simp] theorem writeError_asm (s : State) : (writeError s).asm = s.asm := rfl
@[simp] theorem writeError_tx (s : State) : (writeError s).tx = s.tx := rfl
@[simp] theorem writeError_fifo (s : State) : (writeError s).fifo = s.fifo := rfl
@[simp] theorem writeError_mem (s : State) : (writeError s).mem = s.mem := rfl
@[simp] theorem writeError_txo (s : State) : (writeError s).txo = s.txo := rfl
@[simp] theorem writeError_bus (s : State) : (writeError s).bus = .write true := rfl
@[simp] theorem writeError_sched (s : State) : (writeError s).sched = s.sched := rfl
@[simp] theorem writeError_turn (s : State) : (writeError s).turn = s.turn := rfl

/-! ## cmdRefuse -/

@[simp] theorem cmdRefuse_params (c : ErrCode) (e : BitVec 8) (w : Word) (s : State) : (cmdRefuse c e w s).params = s.params := rfl
@[simp] theorem cmdRefuse_ctrl (c : ErrCode) (e : BitVec 8) (w : Word) (s : State) : (cmdRefuse c e w s).ctrl = s.ctrl := rfl
@[simp] theorem cmdRefuse_flags (c : ErrCode) (e : BitVec 8) (w : Word) (s : State) : (cmdRefuse c e w s).flags = { s.flags with cmdErr := true } := rfl
@[simp] theorem cmdRefuse_irqEn (c : ErrCode) (e : BitVec 8) (w : Word) (s : State) : (cmdRefuse c e w s).irqEn = s.irqEn := rfl
@[simp] theorem cmdRefuse_err (c : ErrCode) (e : BitVec 8) (w : Word) (s : State) : (cmdRefuse c e w s).err = errWord c e w := rfl
@[simp] theorem cmdRefuse_errCmd (c : ErrCode) (e : BitVec 8) (w : Word) (s : State) : (cmdRefuse c e w s).errCmd = w := rfl
@[simp] theorem cmdRefuse_staging (c : ErrCode) (e : BitVec 8) (w : Word) (s : State) : (cmdRefuse c e w s).staging = s.staging := rfl
@[simp] theorem cmdRefuse_active (c : ErrCode) (e : BitVec 8) (w : Word) (s : State) : (cmdRefuse c e w s).active = s.active := rfl
@[simp] theorem cmdRefuse_cfgValid (c : ErrCode) (e : BitVec 8) (w : Word) (s : State) : (cmdRefuse c e w s).cfgValid = s.cfgValid := rfl
@[simp] theorem cmdRefuse_rxRun (c : ErrCode) (e : BitVec 8) (w : Word) (s : State) : (cmdRefuse c e w s).rxRun = s.rxRun := rfl
@[simp] theorem cmdRefuse_rxLen (c : ErrCode) (e : BitVec 8) (w : Word) (s : State) : (cmdRefuse c e w s).rxLen = s.rxLen := rfl
@[simp] theorem cmdRefuse_rxOkCount (c : ErrCode) (e : BitVec 8) (w : Word) (s : State) : (cmdRefuse c e w s).rxOkCount = s.rxOkCount := rfl
@[simp] theorem cmdRefuse_rxFailCount (c : ErrCode) (e : BitVec 8) (w : Word) (s : State) : (cmdRefuse c e w s).rxFailCount = s.rxFailCount := rfl
@[simp] theorem cmdRefuse_blockCount (c : ErrCode) (e : BitVec 8) (w : Word) (s : State) : (cmdRefuse c e w s).blockCount = s.blockCount := rfl
@[simp] theorem cmdRefuse_det (c : ErrCode) (e : BitVec 8) (w : Word) (s : State) : (cmdRefuse c e w s).det = s.det := rfl
@[simp] theorem cmdRefuse_dec (c : ErrCode) (e : BitVec 8) (w : Word) (s : State) : (cmdRefuse c e w s).dec = s.dec := rfl
@[simp] theorem cmdRefuse_asm (c : ErrCode) (e : BitVec 8) (w : Word) (s : State) : (cmdRefuse c e w s).asm = s.asm := rfl
@[simp] theorem cmdRefuse_tx (c : ErrCode) (e : BitVec 8) (w : Word) (s : State) : (cmdRefuse c e w s).tx = s.tx := rfl
@[simp] theorem cmdRefuse_fifo (c : ErrCode) (e : BitVec 8) (w : Word) (s : State) : (cmdRefuse c e w s).fifo = s.fifo := rfl
@[simp] theorem cmdRefuse_mem (c : ErrCode) (e : BitVec 8) (w : Word) (s : State) : (cmdRefuse c e w s).mem = s.mem := rfl
@[simp] theorem cmdRefuse_txo (c : ErrCode) (e : BitVec 8) (w : Word) (s : State) : (cmdRefuse c e w s).txo = s.txo := rfl
@[simp] theorem cmdRefuse_bus (c : ErrCode) (e : BitVec 8) (w : Word) (s : State) : (cmdRefuse c e w s).bus = s.bus := rfl
@[simp] theorem cmdRefuse_sched (c : ErrCode) (e : BitVec 8) (w : Word) (s : State) : (cmdRefuse c e w s).sched = s.sched := rfl
@[simp] theorem cmdRefuse_turn (c : ErrCode) (e : BitVec 8) (w : Word) (s : State) : (cmdRefuse c e w s).turn = s.turn := rfl

/-! ## ackFlags -/

@[simp] theorem ackFlags_params (w : Word) (s : State) : (ackFlags w s).params = s.params := rfl
@[simp] theorem ackFlags_ctrl (w : Word) (s : State) : (ackFlags w s).ctrl = s.ctrl := rfl
@[simp] theorem ackFlags_flags (w : Word) (s : State) : (ackFlags w s).flags = s.flags.ack w := rfl
@[simp] theorem ackFlags_irqEn (w : Word) (s : State) : (ackFlags w s).irqEn = s.irqEn := rfl
@[simp] theorem ackFlags_err (w : Word) (s : State) : (ackFlags w s).err = s.err := rfl
@[simp] theorem ackFlags_errCmd (w : Word) (s : State) : (ackFlags w s).errCmd = s.errCmd := rfl
@[simp] theorem ackFlags_staging (w : Word) (s : State) : (ackFlags w s).staging = s.staging := rfl
@[simp] theorem ackFlags_active (w : Word) (s : State) : (ackFlags w s).active = s.active := rfl
@[simp] theorem ackFlags_cfgValid (w : Word) (s : State) : (ackFlags w s).cfgValid = s.cfgValid := rfl
@[simp] theorem ackFlags_rxRun (w : Word) (s : State) : (ackFlags w s).rxRun = s.rxRun := rfl
@[simp] theorem ackFlags_rxLen (w : Word) (s : State) : (ackFlags w s).rxLen = s.rxLen := rfl
@[simp] theorem ackFlags_rxOkCount (w : Word) (s : State) : (ackFlags w s).rxOkCount = s.rxOkCount := rfl
@[simp] theorem ackFlags_rxFailCount (w : Word) (s : State) : (ackFlags w s).rxFailCount = s.rxFailCount := rfl
@[simp] theorem ackFlags_blockCount (w : Word) (s : State) : (ackFlags w s).blockCount = s.blockCount := rfl
@[simp] theorem ackFlags_det (w : Word) (s : State) : (ackFlags w s).det = s.det := rfl
@[simp] theorem ackFlags_dec (w : Word) (s : State) : (ackFlags w s).dec = s.dec := rfl
@[simp] theorem ackFlags_asm (w : Word) (s : State) : (ackFlags w s).asm = s.asm := rfl
@[simp] theorem ackFlags_tx (w : Word) (s : State) : (ackFlags w s).tx = s.tx := rfl
@[simp] theorem ackFlags_fifo (w : Word) (s : State) : (ackFlags w s).fifo = s.fifo := rfl
@[simp] theorem ackFlags_mem (w : Word) (s : State) : (ackFlags w s).mem = s.mem := rfl
@[simp] theorem ackFlags_txo (w : Word) (s : State) : (ackFlags w s).txo = s.txo := rfl
@[simp] theorem ackFlags_bus (w : Word) (s : State) : (ackFlags w s).bus = s.bus := rfl
@[simp] theorem ackFlags_sched (w : Word) (s : State) : (ackFlags w s).sched = s.sched := rfl
@[simp] theorem ackFlags_turn (w : Word) (s : State) : (ackFlags w s).turn = s.turn := rfl

/-! ## decoderClear -/

@[simp] theorem decoderClear_params (s : State) : (decoderClear s).params = s.params := rfl
@[simp] theorem decoderClear_ctrl (s : State) : (decoderClear s).ctrl = s.ctrl := rfl
@[simp] theorem decoderClear_flags (s : State) : (decoderClear s).flags = s.flags := rfl
@[simp] theorem decoderClear_irqEn (s : State) : (decoderClear s).irqEn = s.irqEn := rfl
@[simp] theorem decoderClear_err (s : State) : (decoderClear s).err = s.err := rfl
@[simp] theorem decoderClear_errCmd (s : State) : (decoderClear s).errCmd = s.errCmd := rfl
@[simp] theorem decoderClear_staging (s : State) : (decoderClear s).staging = s.staging := rfl
@[simp] theorem decoderClear_active (s : State) : (decoderClear s).active = s.active := rfl
@[simp] theorem decoderClear_cfgValid (s : State) : (decoderClear s).cfgValid = s.cfgValid := rfl
@[simp] theorem decoderClear_rxRun (s : State) : (decoderClear s).rxRun = s.rxRun := rfl
@[simp] theorem decoderClear_rxLen (s : State) : (decoderClear s).rxLen = s.rxLen := rfl
@[simp] theorem decoderClear_rxOkCount (s : State) : (decoderClear s).rxOkCount = s.rxOkCount := rfl
@[simp] theorem decoderClear_rxFailCount (s : State) : (decoderClear s).rxFailCount = s.rxFailCount := rfl
@[simp] theorem decoderClear_blockCount (s : State) : (decoderClear s).blockCount = s.blockCount := rfl
@[simp] theorem decoderClear_det (s : State) : (decoderClear s).det = s.det := rfl
@[simp] theorem decoderClear_dec (s : State) : (decoderClear s).dec = s.dec.cleared := rfl
@[simp] theorem decoderClear_asm (s : State) : (decoderClear s).asm = s.asm := rfl
@[simp] theorem decoderClear_tx (s : State) : (decoderClear s).tx = s.tx := rfl
@[simp] theorem decoderClear_fifo (s : State) : (decoderClear s).fifo = s.fifo := rfl
@[simp] theorem decoderClear_mem (s : State) : (decoderClear s).mem = s.mem := rfl
@[simp] theorem decoderClear_txo (s : State) : (decoderClear s).txo = s.txo := rfl
@[simp] theorem decoderClear_bus (s : State) : (decoderClear s).bus = s.bus := rfl
@[simp] theorem decoderClear_sched (s : State) : (decoderClear s).sched = s.sched := rfl
@[simp] theorem decoderClear_turn (s : State) : (decoderClear s).turn = s.turn := rfl

/-! ## assemblerClear -/

@[simp] theorem assemblerClear_params (s : State) : (assemblerClear s).params = s.params := rfl
@[simp] theorem assemblerClear_ctrl (s : State) : (assemblerClear s).ctrl = s.ctrl := rfl
@[simp] theorem assemblerClear_flags (s : State) : (assemblerClear s).flags = s.flags := rfl
@[simp] theorem assemblerClear_irqEn (s : State) : (assemblerClear s).irqEn = s.irqEn := rfl
@[simp] theorem assemblerClear_err (s : State) : (assemblerClear s).err = s.err := rfl
@[simp] theorem assemblerClear_errCmd (s : State) : (assemblerClear s).errCmd = s.errCmd := rfl
@[simp] theorem assemblerClear_staging (s : State) : (assemblerClear s).staging = s.staging := rfl
@[simp] theorem assemblerClear_active (s : State) : (assemblerClear s).active = s.active := rfl
@[simp] theorem assemblerClear_cfgValid (s : State) : (assemblerClear s).cfgValid = s.cfgValid := rfl
@[simp] theorem assemblerClear_rxRun (s : State) : (assemblerClear s).rxRun = s.rxRun := rfl
@[simp] theorem assemblerClear_rxLen (s : State) : (assemblerClear s).rxLen = s.rxLen := rfl
@[simp] theorem assemblerClear_rxOkCount (s : State) : (assemblerClear s).rxOkCount = s.rxOkCount := rfl
@[simp] theorem assemblerClear_rxFailCount (s : State) : (assemblerClear s).rxFailCount = s.rxFailCount := rfl
@[simp] theorem assemblerClear_blockCount (s : State) : (assemblerClear s).blockCount = s.blockCount := rfl
@[simp] theorem assemblerClear_det (s : State) : (assemblerClear s).det = s.det := rfl
@[simp] theorem assemblerClear_dec (s : State) : (assemblerClear s).dec = s.dec := rfl
@[simp] theorem assemblerClear_asm (s : State) : (assemblerClear s).asm = s.asm.cleared := rfl
@[simp] theorem assemblerClear_tx (s : State) : (assemblerClear s).tx = s.tx := rfl
@[simp] theorem assemblerClear_fifo (s : State) : (assemblerClear s).fifo = s.fifo := rfl
@[simp] theorem assemblerClear_mem (s : State) : (assemblerClear s).mem = s.mem := rfl
@[simp] theorem assemblerClear_txo (s : State) : (assemblerClear s).txo = s.txo := rfl
@[simp] theorem assemblerClear_bus (s : State) : (assemblerClear s).bus = s.bus := rfl
@[simp] theorem assemblerClear_sched (s : State) : (assemblerClear s).sched = s.sched := rfl
@[simp] theorem assemblerClear_turn (s : State) : (assemblerClear s).turn = s.turn := rfl

/-! ## decoderFail -/

@[simp] theorem decoderFail_params (r : FailReason) (s : State) : (decoderFail r s).params = s.params := rfl
@[simp] theorem decoderFail_ctrl (r : FailReason) (s : State) : (decoderFail r s).ctrl = s.ctrl := rfl
@[simp] theorem decoderFail_flags (r : FailReason) (s : State) : (decoderFail r s).flags = s.flags := rfl
@[simp] theorem decoderFail_irqEn (r : FailReason) (s : State) : (decoderFail r s).irqEn = s.irqEn := rfl
@[simp] theorem decoderFail_err (r : FailReason) (s : State) : (decoderFail r s).err = s.err := rfl
@[simp] theorem decoderFail_errCmd (r : FailReason) (s : State) : (decoderFail r s).errCmd = s.errCmd := rfl
@[simp] theorem decoderFail_staging (r : FailReason) (s : State) : (decoderFail r s).staging = s.staging := rfl
@[simp] theorem decoderFail_active (r : FailReason) (s : State) : (decoderFail r s).active = s.active := rfl
@[simp] theorem decoderFail_cfgValid (r : FailReason) (s : State) : (decoderFail r s).cfgValid = s.cfgValid := rfl
@[simp] theorem decoderFail_rxRun (r : FailReason) (s : State) : (decoderFail r s).rxRun = s.rxRun := rfl
@[simp] theorem decoderFail_rxLen (r : FailReason) (s : State) : (decoderFail r s).rxLen = s.rxLen := rfl
@[simp] theorem decoderFail_rxOkCount (r : FailReason) (s : State) : (decoderFail r s).rxOkCount = s.rxOkCount := rfl
@[simp] theorem decoderFail_rxFailCount (r : FailReason) (s : State) : (decoderFail r s).rxFailCount = s.rxFailCount + 1#32 := rfl
@[simp] theorem decoderFail_blockCount (r : FailReason) (s : State) : (decoderFail r s).blockCount = s.blockCount := rfl
@[simp] theorem decoderFail_det (r : FailReason) (s : State) : (decoderFail r s).det = s.det := rfl
@[simp] theorem decoderFail_dec (r : FailReason) (s : State) : (decoderFail r s).dec = { Decoder.reset with failReason := r } := rfl
@[simp] theorem decoderFail_asm (r : FailReason) (s : State) : (decoderFail r s).asm = s.asm := rfl
@[simp] theorem decoderFail_tx (r : FailReason) (s : State) : (decoderFail r s).tx = s.tx := rfl
@[simp] theorem decoderFail_fifo (r : FailReason) (s : State) : (decoderFail r s).fifo = s.fifo := rfl
@[simp] theorem decoderFail_mem (r : FailReason) (s : State) : (decoderFail r s).mem = s.mem := rfl
@[simp] theorem decoderFail_txo (r : FailReason) (s : State) : (decoderFail r s).txo = s.txo := rfl
@[simp] theorem decoderFail_bus (r : FailReason) (s : State) : (decoderFail r s).bus = s.bus := rfl
@[simp] theorem decoderFail_sched (r : FailReason) (s : State) : (decoderFail r s).sched = s.sched := rfl
@[simp] theorem decoderFail_turn (r : FailReason) (s : State) : (decoderFail r s).turn = s.turn := rfl

/-! ## deliver -/

@[simp] theorem deliver_params (s : State) : (deliver s).params = s.params := rfl
@[simp] theorem deliver_ctrl (s : State) : (deliver s).ctrl = s.ctrl := rfl
@[simp] theorem deliver_flags (s : State) : (deliver s).flags = { s.flags with rxDone := true } := rfl
@[simp] theorem deliver_irqEn (s : State) : (deliver s).irqEn = s.irqEn := rfl
@[simp] theorem deliver_err (s : State) : (deliver s).err = s.err := rfl
@[simp] theorem deliver_errCmd (s : State) : (deliver s).errCmd = s.errCmd := rfl
@[simp] theorem deliver_staging (s : State) : (deliver s).staging = s.staging := rfl
@[simp] theorem deliver_active (s : State) : (deliver s).active = s.active := rfl
@[simp] theorem deliver_cfgValid (s : State) : (deliver s).cfgValid = s.cfgValid := rfl
@[simp] theorem deliver_rxRun (s : State) : (deliver s).rxRun = s.rxRun := rfl
@[simp] theorem deliver_rxLen (s : State) : (deliver s).rxLen = BitVec.ofNat 8 s.dec.plen := rfl
@[simp] theorem deliver_rxOkCount (s : State) : (deliver s).rxOkCount = s.rxOkCount + 1#32 := rfl
@[simp] theorem deliver_rxFailCount (s : State) : (deliver s).rxFailCount = s.rxFailCount := rfl
@[simp] theorem deliver_blockCount (s : State) : (deliver s).blockCount = s.blockCount := rfl
@[simp] theorem deliver_det (s : State) : (deliver s).det = s.det := rfl
@[simp] theorem deliver_dec (s : State) : (deliver s).dec = s.dec.cleared := rfl
@[simp] theorem deliver_asm (s : State) : (deliver s).asm = s.asm := rfl
@[simp] theorem deliver_tx (s : State) : (deliver s).tx = s.tx := rfl
@[simp] theorem deliver_fifo (s : State) : (deliver s).fifo = s.fifo := rfl
@[simp] theorem deliver_mem (s : State) : (deliver s).mem = s.mem.writeAll rxBufBase (s.dec.pay.take s.dec.plen) := rfl
@[simp] theorem deliver_txo (s : State) : (deliver s).txo = s.txo := rfl
@[simp] theorem deliver_bus (s : State) : (deliver s).bus = s.bus := rfl
@[simp] theorem deliver_sched (s : State) : (deliver s).sched = s.sched := rfl
@[simp] theorem deliver_turn (s : State) : (deliver s).turn = s.turn := rfl

/-! ## emit -/

@[simp] theorem emit_params (x : Sample) (s : State) : (emit x s).params = s.params := rfl
@[simp] theorem emit_ctrl (x : Sample) (s : State) : (emit x s).ctrl = s.ctrl := rfl
@[simp] theorem emit_flags (x : Sample) (s : State) : (emit x s).flags = s.flags := rfl
@[simp] theorem emit_irqEn (x : Sample) (s : State) : (emit x s).irqEn = s.irqEn := rfl
@[simp] theorem emit_err (x : Sample) (s : State) : (emit x s).err = s.err := rfl
@[simp] theorem emit_errCmd (x : Sample) (s : State) : (emit x s).errCmd = s.errCmd := rfl
@[simp] theorem emit_staging (x : Sample) (s : State) : (emit x s).staging = s.staging := rfl
@[simp] theorem emit_active (x : Sample) (s : State) : (emit x s).active = s.active := rfl
@[simp] theorem emit_cfgValid (x : Sample) (s : State) : (emit x s).cfgValid = s.cfgValid := rfl
@[simp] theorem emit_rxRun (x : Sample) (s : State) : (emit x s).rxRun = s.rxRun := rfl
@[simp] theorem emit_rxLen (x : Sample) (s : State) : (emit x s).rxLen = s.rxLen := rfl
@[simp] theorem emit_rxOkCount (x : Sample) (s : State) : (emit x s).rxOkCount = s.rxOkCount := rfl
@[simp] theorem emit_rxFailCount (x : Sample) (s : State) : (emit x s).rxFailCount = s.rxFailCount := rfl
@[simp] theorem emit_blockCount (x : Sample) (s : State) : (emit x s).blockCount = s.blockCount := rfl
@[simp] theorem emit_det (x : Sample) (s : State) : (emit x s).det = s.det := rfl
@[simp] theorem emit_dec (x : Sample) (s : State) : (emit x s).dec = s.dec := rfl
@[simp] theorem emit_asm (x : Sample) (s : State) : (emit x s).asm = s.asm := rfl
@[simp] theorem emit_tx (x : Sample) (s : State) : (emit x s).tx = s.tx := rfl
@[simp] theorem emit_fifo (x : Sample) (s : State) : (emit x s).fifo = s.fifo := rfl
@[simp] theorem emit_mem (x : Sample) (s : State) : (emit x s).mem = s.mem := rfl
@[simp] theorem emit_txo (x : Sample) (s : State) : (emit x s).txo = s.txo ++ [x] := rfl
@[simp] theorem emit_bus (x : Sample) (s : State) : (emit x s).bus = s.bus := rfl
@[simp] theorem emit_sched (x : Sample) (s : State) : (emit x s).sched = s.sched := rfl
@[simp] theorem emit_turn (x : Sample) (s : State) : (emit x s).turn = s.turn := rfl

/-! ## Clears of the groups -/

@[simp] theorem Decoder.cleared_rxState (d : Decoder) : d.cleared.rxState = .seekStart := rfl
@[simp] theorem Decoder.cleared_win (d : Decoder) : d.cleared.win = 0#8 := rfl
@[simp] theorem Decoder.cleared_wcount (d : Decoder) : d.cleared.wcount = 0 := rfl
@[simp] theorem Decoder.cleared_acc (d : Decoder) : d.cleared.acc = 0#16 := rfl
@[simp] theorem Decoder.cleared_nbits (d : Decoder) : d.cleared.nbits = 0 := rfl
@[simp] theorem Decoder.cleared_plen (d : Decoder) : d.cleared.plen = 0 := rfl
@[simp] theorem Decoder.cleared_pay (d : Decoder) : d.cleared.pay = [] := rfl
@[simp] theorem Decoder.cleared_failReason (d : Decoder) : d.cleared.failReason = d.failReason := rfl

@[simp] theorem Assembler.cleared_cnt (a : Assembler) : a.cleared.cnt = 0 := rfl
@[simp] theorem Assembler.cleared_lanes (a : Assembler) : a.cleared.lanes = Vector.replicate 16 Lane.zero := rfl
@[simp] theorem Assembler.cleared_power (a : Assembler) : a.cleared.power = 0 := rfl
@[simp] theorem Assembler.cleared_slipRemain (a : Assembler) : a.cleared.slipRemain = a.slipRemain := rfl

@[simp] theorem TxEngine.idle_busy (t : TxEngine) : t.idle.busy = false := rfl
@[simp] theorem TxEngine.idle_half (t : TxEngine) : t.idle.half = false := rfl
@[simp] theorem TxEngine.idle_items (t : TxEngine) : t.idle.items = [] := rfl
@[simp] theorem TxEngine.idle_blockIdx (t : TxEngine) : t.idle.blockIdx = 0 := rfl
@[simp] theorem TxEngine.idle_sampleIdx (t : TxEngine) : t.idle.sampleIdx = 0 := rfl
@[simp] theorem TxEngine.idle_phase (t : TxEngine) : t.idle.phase = t.phase := rfl


end Sys2Proof.Machine
end

