-- ==== Sys2Proof/Laws/Frames.lean ====
section
/-! SUPPORT. What each shared operation can change at all, said once: provers cite these frames instead of
unfolding the decoder, the assembler or the transmit step. -/

namespace Sys2Proof.Machine

/-! ## The decoder -/

/-- `t` differs from `s` at most in what the decoder owns: its own state, the two packet counters, and through
a delivery `RX_BUF`, `RX_LEN` and `RX_DONE`. -/
def DecoderFrame (s t : State) : Prop :=
  t =
    { s with
      dec := t.dec, rxFailCount := t.rxFailCount, rxOkCount := t.rxOkCount, mem := t.mem, rxLen := t.rxLen,
      flags := { s.flags with rxDone := t.flags.rxDone } }

/-- The frame as an equation. -/
theorem DecoderFrame.equation {s t : State} (h : DecoderFrame s t) :
    t =
      { s with
        dec := t.dec, rxFailCount := t.rxFailCount, rxOkCount := t.rxOkCount, mem := t.mem, rxLen := t.rxLen,
        flags := { s.flags with rxDone := t.flags.rxDone } } := h

theorem DecoderFrame.refl (s : State) : DecoderFrame s s := rfl

theorem DecoderFrame.trans {s t u : State} (h : DecoderFrame s t) (h' : DecoderFrame t u) : DecoderFrame s u :=
  h'.equation.trans (congrArg
    (fun z : State =>
      { z with
        dec := u.dec, rxFailCount := u.rxFailCount, rxOkCount := u.rxOkCount, mem := u.mem, rxLen := u.rxLen,
        flags := { z.flags with rxDone := u.flags.rxDone } }) h.equation)

theorem decoderClear_frame (s : State) : DecoderFrame s (decoderClear s) := rfl

theorem decoderFail_frame (r : FailReason) (s : State) : DecoderFrame s (decoderFail r s) := rfl

theorem deliver_frame (s : State) : DecoderFrame s (deliver s) := rfl

theorem packetDone_frame (s : State) : DecoderFrame s (packetDone s) := by
  unfold packetDone; split
  · rfl
  · exact deliver_frame s

theorem seekStartBit_frame (v : Bool) (s : State) : DecoderFrame s (seekStartBit v s) := by
  simp only [seekStartBit]; split <;> rfl

theorem shiftBit_frame (v : Bool) (s : State) : DecoderFrame s (shiftBit v s) := rfl

theorem lengthDone_frame (s : State) : DecoderFrame s (lengthDone s).1 := by
  unfold lengthDone; split <;> rfl

theorem payloadByteDone_frame (s : State) : DecoderFrame s (payloadByteDone s).1 := rfl

theorem crcDone_frame (s : State) : DecoderFrame s (crcDone s).1 := by
  unfold crcDone; split <;> rfl

theorem endDone_frame (s : State) : DecoderFrame s (endDone s).1 := by
  unfold endDone; split
  · rfl
  · exact packetDone_frame s

/-- One bit changes only what the decoder owns. -/
theorem decoderBit_frame (v : Bool) (s : State) : DecoderFrame s (decoderBit v s).1 := by
  unfold decoderBit
  cases s.dec.rxState <;> dsimp only
  · exact seekStartBit_frame v s
  · split
    · exact (shiftBit_frame v s).trans (lengthDone_frame _)
    · exact shiftBit_frame v s
  · split
    · exact (shiftBit_frame v s).trans (payloadByteDone_frame _)
    · exact shiftBit_frame v s
  · split
    · exact (shiftBit_frame v s).trans (crcDone_frame _)
    · exact shiftBit_frame v s
  · split
    · exact (shiftBit_frame v s).trans (endDone_frame _)
    · exact shiftBit_frame v s
  · exact shiftBit_frame v s

/-- Feeding bits changes only what the decoder owns. -/
theorem feedBits_frame (vs : List Bool) (s : State) : DecoderFrame s (feedBits vs s) := by
  induction vs generalizing s with
  | nil => exact .refl s
  | cons v vs ih =>
    have h := decoderBit_frame v s
    simp only [feedBits]
    split
    · rename_i t e; rw [e] at h; exact h.trans (ih t)
    · rename_i t e; rw [e] at h; exact h

/-- Feeding a block decision changes only what the decoder owns. -/
theorem decoderFeed_frame (kind : DetKind) (k1 : Nat) (s : State) : DecoderFrame s (decoderFeed kind k1 s) := by
  unfold decoderFeed
  split
  · rfl
  · split
    · rfl
    · exact feedBits_frame _ s
    · rfl
    · exact decoderFail_frame _ s

/-! ## The assembler -/

/-- `t` differs from `s` at most in what assembling a sample may change: the assembler, at a block end the
detector results, and what the decoder owns. -/
def AssembleFrame (s t : State) : Prop :=
  t =
    { s with
      asm := t.asm, det := t.det, blockCount := t.blockCount,
      dec := t.dec, rxFailCount := t.rxFailCount, rxOkCount := t.rxOkCount, mem := t.mem, rxLen := t.rxLen,
      flags := { s.flags with rxDone := t.flags.rxDone, detValid := t.flags.detValid } }

/-- The frame as an equation. -/
theorem AssembleFrame.equation {s t : State} (h : AssembleFrame s t) :
    t =
      { s with
        asm := t.asm, det := t.det, blockCount := t.blockCount,
        dec := t.dec, rxFailCount := t.rxFailCount, rxOkCount := t.rxOkCount, mem := t.mem, rxLen := t.rxLen,
        flags := { s.flags with rxDone := t.flags.rxDone, detValid := t.flags.detValid } } := h

theorem AssembleFrame.refl (s : State) : AssembleFrame s s := rfl

theorem AssembleFrame.trans {s t u : State} (h : AssembleFrame s t) (h' : AssembleFrame t u) : AssembleFrame s u :=
  h'.equation.trans (congrArg
    (fun z : State =>
      { z with
        asm := u.asm, det := u.det, blockCount := u.blockCount,
        dec := u.dec, rxFailCount := u.rxFailCount, rxOkCount := u.rxOkCount, mem := u.mem, rxLen := u.rxLen,
        flags := { z.flags with rxDone := u.flags.rxDone, detValid := u.flags.detValid } }) h.equation)

theorem DecoderFrame.toAssemble {s t : State} (h : DecoderFrame s t) : AssembleFrame s t := by
  unfold DecoderFrame at h
  unfold AssembleFrame
  rw [h]

theorem assemblerClear_frame (s : State) : AssembleFrame s (assemblerClear s) := rfl

/-- The end of a block changes only what assembling may change. -/
theorem blockEnd_frame (s : State) : AssembleFrame s (blockEnd s) := by
  simp only [blockEnd]
  exact AssembleFrame.trans (t := assemblerClear _) rfl (decoderFeed_frame _ _ _).toAssemble

/-- Assembling a sample changes only the assembler, the detector results and what the decoder owns. -/
theorem assemble_frame (x : Sample) (s : State) : AssembleFrame s (assemble x s) := by
  simp only [assemble]
  split
  · rfl
  · split
    · exact AssembleFrame.trans (t := { s with asm := _ }) rfl (blockEnd_frame _)
    · rfl

theorem loopbackIn_frame (x : Sample) (s : State) : AssembleFrame s (loopbackIn x s) := by
  unfold loopbackIn; split
  · exact assemble_frame x s
  · exact .refl s

/-! ## Fields read off a frame -/

section
variable {s t : State}

theorem AssembleFrame.params_eq (h : AssembleFrame s t) : t.params = s.params := (congrArg State.params h.equation).trans rfl
theorem AssembleFrame.ctrl_eq (h : AssembleFrame s t) : t.ctrl = s.ctrl := (congrArg State.ctrl h.equation).trans rfl
theorem AssembleFrame.irqEn_eq (h : AssembleFrame s t) : t.irqEn = s.irqEn := (congrArg State.irqEn h.equation).trans rfl
theorem AssembleFrame.err_eq (h : AssembleFrame s t) : t.err = s.err := (congrArg State.err h.equation).trans rfl
theorem AssembleFrame.errCmd_eq (h : AssembleFrame s t) : t.errCmd = s.errCmd := (congrArg State.errCmd h.equation).trans rfl
theorem AssembleFrame.staging_eq (h : AssembleFrame s t) : t.staging = s.staging := (congrArg State.staging h.equation).trans rfl
theorem AssembleFrame.active_eq (h : AssembleFrame s t) : t.active = s.active := (congrArg State.active h.equation).trans rfl
theorem AssembleFrame.cfgValid_eq (h : AssembleFrame s t) : t.cfgValid = s.cfgValid := (congrArg State.cfgValid h.equation).trans rfl
theorem AssembleFrame.rxRun_eq (h : AssembleFrame s t) : t.rxRun = s.rxRun := (congrArg State.rxRun h.equation).trans rfl
theorem AssembleFrame.tx_eq (h : AssembleFrame s t) : t.tx = s.tx := (congrArg State.tx h.equation).trans rfl
theorem AssembleFrame.fifo_eq (h : AssembleFrame s t) : t.fifo = s.fifo := (congrArg State.fifo h.equation).trans rfl
theorem AssembleFrame.txo_eq (h : AssembleFrame s t) : t.txo = s.txo := (congrArg State.txo h.equation).trans rfl
theorem AssembleFrame.bus_eq (h : AssembleFrame s t) : t.bus = s.bus := (congrArg State.bus h.equation).trans rfl
theorem AssembleFrame.sched_eq (h : AssembleFrame s t) : t.sched = s.sched := (congrArg State.sched h.equation).trans rfl
theorem AssembleFrame.turn_eq (h : AssembleFrame s t) : t.turn = s.turn := (congrArg State.turn h.equation).trans rfl

theorem DecoderFrame.asm_eq (h : DecoderFrame s t) : t.asm = s.asm := (congrArg State.asm h.equation).trans rfl
theorem DecoderFrame.det_eq (h : DecoderFrame s t) : t.det = s.det := (congrArg State.det h.equation).trans rfl
theorem DecoderFrame.blockCount_eq (h : DecoderFrame s t) : t.blockCount = s.blockCount :=
  (congrArg State.blockCount h.equation).trans rfl
theorem DecoderFrame.active_eq (h : DecoderFrame s t) : t.active = s.active := (congrArg State.active h.equation).trans rfl
theorem DecoderFrame.params_eq (h : DecoderFrame s t) : t.params = s.params := (congrArg State.params h.equation).trans rfl

end

/-! ## The other steps -/

/-- What a clear that spares a held packet can do. -/
theorem decoderClearUnlessHeld_cases (s : State) :
    (s.dec.rxState = .doneHold ∧ decoderClearUnlessHeld s = s) ∨
      (s.dec.rxState ≠ .doneHold ∧ decoderClearUnlessHeld s = decoderClear s) := by
  unfold decoderClearUnlessHeld
  split
  · exact .inl ⟨by assumption, rfl⟩
  · exact .inr ⟨by assumption, rfl⟩

/-- What entering the half-duplex pause can do (44_send_path.md R213). -/
theorem pauseEnter_cases (s : State) :
    (s.dec.rxState = .doneHold ∧ pauseEnter s = assemblerClear s) ∨
      (s.dec.rxState = .seekStart ∧ pauseEnter s = decoderClear (assemblerClear s)) ∨
      (s.dec.rxState ≠ .doneHold ∧ s.dec.rxState ≠ .seekStart ∧
        pauseEnter s = decoderFail .paused (assemblerClear s)) := by
  unfold pauseEnter
  cases h : s.dec.rxState <;> simp [h]

theorem pauseEnter_frame (s : State) : AssembleFrame s (pauseEnter s) := by
  rcases pauseEnter_cases s with ⟨-, h⟩ | ⟨-, h⟩ | ⟨-, -, h⟩ <;> rw [h] <;> rfl

/-- Accepting a transmission sets the engine and may pause the receiver (44_send_path.md R212). -/
theorem txAccept_tx (items : List TxItem) (s : State) :
    (txAccept items s).tx =
      { s.tx with
        items := items, blockIdx := 0, sampleIdx := 0, busy := true, half := !s.duplex && !s.loopback } := by
  simp only [txAccept]
  split
  · rw [(pauseEnter_frame _).tx_eq]
  · rfl

/-- What the end of a transmit step can do (40_tone_synthesizer.md R121). -/
theorem txAdvance_cases (s : State) :
    (s.tx.sampleIdx + 1 ≠ s.active.n ∧ txAdvance s = { s with tx := { s.tx with sampleIdx := s.tx.sampleIdx + 1 } }) ∨
      (s.tx.sampleIdx + 1 = s.active.n ∧ s.tx.blockIdx + 1 ≠ s.tx.items.length ∧
        txAdvance s = { s with tx := { s.tx with sampleIdx := 0, blockIdx := s.tx.blockIdx + 1 } }) ∨
      (s.tx.sampleIdx + 1 = s.active.n ∧ s.tx.blockIdx + 1 = s.tx.items.length ∧
        txAdvance s = { s with tx := s.tx.idle, flags := { s.flags with txDone := true } }) := by
  unfold txAdvance
  split
  · split
    · exact .inr (.inr ⟨by assumption, by assumption, rfl⟩)
    · exact .inr (.inl ⟨by assumption, by assumption, rfl⟩)
  · exact .inl ⟨by assumption, rfl⟩

/-- What one more sample does to the assembler (43_capture_pipeline.md R190). -/
theorem assemble_cases (x : Sample) (s : State) :
    (s.asm.slipRemain ≠ 0#16 ∧
        assemble x s = { s with asm := { s.asm with slipRemain := s.asm.slipRemain - 1#16 } }) ∨
      (s.asm.slipRemain = 0#16 ∧ s.asm.cnt + 1 ≠ s.active.n ∧
        assemble x s = { s with asm := { s.asm.laneUpdate s.active x with cnt := s.asm.cnt + 1 } }) ∨
      (s.asm.slipRemain = 0#16 ∧ s.asm.cnt + 1 = s.active.n ∧
        assemble x s = blockEnd { s with asm := { s.asm.laneUpdate s.active x with cnt := s.asm.cnt + 1 } }) := by
  have hc : (s.asm.laneUpdate s.active x).cnt = s.asm.cnt := rfl
  simp only [assemble, hc]
  by_cases h : s.asm.slipRemain = 0#16
  · by_cases h2 : s.asm.cnt + 1 = s.active.n
    · exact .inr (.inr ⟨h, h2, by simp [h, h2]⟩)
    · exact .inr (.inl ⟨h, h2, by simp [h, h2]⟩)
  · exact .inl ⟨h, by simp [h]⟩

/-- Every instruction completes: GLFSK has no undefined command (60_exceptions.md R280). -/
theorem exec_next (i : Instr) (s : State) : ∃ t, exec i s = .next t := by
  cases i with
  | txFrame len =>
    simp only [exec, execTxFrame]
    repeat' split
    all_goals exact ⟨_, rfl⟩
  | txSymbol sym =>
    simp only [exec, execTxSymbol]
    repeat' split
    all_goals exact ⟨_, rfl⟩
  | txSilence =>
    simp only [exec, execTxSilence]
    repeat' split
    all_goals exact ⟨_, rfl⟩
  | txAbort =>
    simp only [exec, execTxAbort]
    split <;> exact ⟨_, rfl⟩
  | configure =>
    simp only [exec, execConfigure]
    repeat' split
    all_goals exact ⟨_, rfl⟩
  | rxStart =>
    simp only [exec, execRxStart]
    repeat' split
    all_goals exact ⟨_, rfl⟩
  | nop => exact ⟨_, rfl⟩
  | softReset => exact ⟨_, rfl⟩
  | rxStop => exact ⟨_, rfl⟩
  | rxResync => exact ⟨_, rfl⟩
  | rxSlip count => exact ⟨_, rfl⟩

/-! ## `CTRL` -/

/-- No `TxStep` writes `CTRL`. -/
@[simp] theorem txStep_ctrl (s : State) : (txStep s).ctrl = s.ctrl := by
  have adv : ∀ u : State, (txAdvance u).ctrl = u.ctrl := by
    intro u
    unfold txAdvance
    split <;> (try split) <;> rfl
  unfold txStep
  rw [adv]
  split
  · exact (loopbackIn_frame _ _).ctrl_eq
  · rfl

/-- No `RxPop` writes `CTRL`. -/
@[simp] theorem rxPop_ctrl (s : State) : (rxPop s).ctrl = s.ctrl := by
  unfold rxPop
  dsimp only
  split
  · exact (assemble_frame _ _).ctrl_eq
  · rfl

end Sys2Proof.Machine
end

