-- ==== Sys2Proof/Laws/Memory.lean ====
section
/-! SUPPORT. The laws of storage: what reads back after a write, and that every memory operation keeps the
canonical form. -/

namespace Sys2Proof.Machine

variable {α : Type} [DecidableEq α] {d : α}

theorem Sparse.wf_nil : Sparse.wf d ([] : Sparse α) := by simp [Sparse.wf]

/-- The canonical form, taken apart at the head. -/
theorem Sparse.wf_cons {b : Nat} {w : α} {m : Sparse α} :
    Sparse.wf d ((b, w) :: m) ↔ w ≠ d ∧ (∀ c ∈ m, b < c.1) ∧ Sparse.wf d m := by
  simp only [Sparse.wf, List.map_cons, List.pairwise_cons, List.mem_cons, forall_eq_or_imp, List.mem_map,
    forall_exists_index, and_imp, forall_apply_eq_imp_iff₂]
  tauto

omit [DecidableEq α] in
/-- A key below every listed key reads as the unlisted value. -/
theorem Sparse.read_of_lt {m : Sparse α} {a : Nat} (h : ∀ c ∈ m, a < c.1) : Sparse.read d m a = d := by
  induction m with
  | nil => rfl
  | cons c m ih =>
    obtain ⟨b, w⟩ := c
    have hb : a < b := h (b, w) (by simp)
    simp only [Sparse.read, Nat.ne_of_lt hb, if_false]
    exact ih fun c hc => h c (by simp [hc])

/-- A written key is the new one or was listed before. -/
theorem Sparse.mem_write {m : Sparse α} {a : Nat} {v : α} {c : Nat × α} (h : c ∈ Sparse.write d m a v) :
    c ∈ m ∨ (c = (a, v) ∧ v ≠ d) := by
  induction m with
  | nil =>
    by_cases hv : v = d
    · simp [Sparse.write, hv] at h
    · simp [Sparse.write, hv] at h; exact .inr ⟨h, hv⟩
  | cons e m ih =>
    obtain ⟨b, w⟩ := e
    simp only [Sparse.write] at h
    split at h
    · split at h
      · exact .inl h
      · rcases List.mem_cons.1 h with rfl | h
        · exact .inr ⟨rfl, by assumption⟩
        · exact .inl h
    · split at h
      · split at h
        · exact .inl (by simp [h])
        · rcases List.mem_cons.1 h with rfl | h
          · exact .inr ⟨rfl, by assumption⟩
          · exact .inl (by simp [h])
      · rcases List.mem_cons.1 h with rfl | h
        · exact .inl (by simp)
        · rcases ih h with h | h
          · exact .inl (by simp [h])
          · exact .inr h

/-- A write keeps the canonical form. -/
theorem Sparse.write_wf {m : Sparse α} (h : Sparse.wf d m) (a : Nat) (v : α) :
    Sparse.wf d (Sparse.write d m a v) := by
  induction m with
  | nil => by_cases hv : v = d <;> simp [Sparse.write, Sparse.wf, hv]
  | cons e m ih =>
    obtain ⟨b, w⟩ := e
    obtain ⟨hw, hb, hm⟩ := Sparse.wf_cons.1 h
    simp only [Sparse.write]
    split
    · rename_i hab
      split
      · exact h
      · refine Sparse.wf_cons.2 ⟨by assumption, ?_, h⟩
        intro c hc
        rcases List.mem_cons.1 hc with rfl | hc
        · exact hab
        · exact hab.trans (hb c hc)
    · split
      · rename_i hab
        subst hab
        split
        · exact hm
        · exact Sparse.wf_cons.2 ⟨by assumption, hb, hm⟩
      · refine Sparse.wf_cons.2 ⟨hw, ?_, ih hm⟩
        intro c hc
        rcases Sparse.mem_write hc with hc | ⟨rfl, -⟩
        · exact hb c hc
        · show b < a
          omega

/-- Read after write to the same key. -/
theorem Sparse.read_write_same {m : Sparse α} (h : Sparse.wf d m) (a : Nat) (v : α) :
    Sparse.read d (Sparse.write d m a v) a = v := by
  induction m with
  | nil => by_cases hv : v = d <;> simp [Sparse.write, Sparse.read, hv]
  | cons e m ih =>
    obtain ⟨b, w⟩ := e
    obtain ⟨hw, hb, hm⟩ := Sparse.wf_cons.1 h
    simp only [Sparse.write]
    split
    · rename_i hab
      split
      · rename_i hv
        rw [hv]
        refine Sparse.read_of_lt ?_
        intro c hc
        rcases List.mem_cons.1 hc with rfl | hc
        · exact hab
        · exact hab.trans (hb c hc)
      · simp [Sparse.read]
    · split
      · rename_i hab
        subst hab
        split
        · rename_i hv; rw [hv]; exact Sparse.read_of_lt hb
        · simp [Sparse.read]
      · rename_i h1 h2
        simp only [Sparse.read, h2, if_false]
        exact ih hm

/-- A write leaves every other key alone. -/
theorem Sparse.read_write_other {m : Sparse α} (h : Sparse.wf d m) {a a' : Nat} (hne : a' ≠ a) (v : α) :
    Sparse.read d (Sparse.write d m a v) a' = Sparse.read d m a' := by
  induction m with
  | nil => by_cases hv : v = d <;> simp [Sparse.write, Sparse.read, hv, hne]
  | cons e m ih =>
    obtain ⟨b, w⟩ := e
    obtain ⟨hw, hb, hm⟩ := Sparse.wf_cons.1 h
    simp only [Sparse.write]
    split
    · split
      · rfl
      · simp [Sparse.read, hne]
    · split
      · rename_i hab
        subst hab
        split
        · rename_i h2
          simp [Sparse.read, hne]
        · simp [Sparse.read, hne]
      · simp only [Sparse.read]
        rw [ih hm]

/-- A written memory byte reads back. -/
theorem Memory.read_write_same {m : Memory} (h : m.wf) (a : Nat) (v : Byte) : (m.write a v).read a = v :=
  Sparse.read_write_same h a v

/-- A memory write leaves every other byte alone. -/
theorem Memory.read_write_other {m : Memory} (h : m.wf) {a a' : Nat} (hne : a' ≠ a) (v : Byte) :
    (m.write a v).read a' = m.read a' :=
  Sparse.read_write_other h hne v

/-- `Memory.write` keeps the canonical form. -/
theorem Memory.write_wf {m : Memory} (h : m.wf) (a : Nat) (v : Byte) : (m.write a v).wf := Sparse.write_wf h a v

/-- `Memory.writeAll` keeps the canonical form. -/
theorem Memory.writeAll_wf {m : Memory} (h : m.wf) (a : Nat) (vs : List Byte) : (m.writeAll a vs).wf := by
  induction vs generalizing m a with
  | nil => exact h
  | cons v vs ih => exact ih (Memory.write_wf h a v) (a + 1)

/-- `txBufWrite` keeps the canonical form. -/
theorem txBufWrite_wf {m : Memory} (h : m.wf) (maxPayload j : Nat) (data : Word) (n : Nat) :
    (txBufWrite maxPayload m j data n).wf := by
  induction n generalizing m j data with
  | zero => exact h
  | succ n ih =>
    simp only [txBufWrite]
    split
    · exact ih (Memory.write_wf h _ _) _ _
    · exact ih h _ _

/-- What reads back after a list of bytes is written: the bytes where they were stored, the old ones elsewhere. -/
theorem Memory.read_writeAll {m : Memory} (h : m.wf) (a : Nat) (vs : List Byte) (a' : Nat) :
    (m.writeAll a vs).read a' = if a ≤ a' then (vs[a' - a]?).getD (m.read a') else m.read a' := by
  induction vs generalizing m a with
  | nil => simp [Memory.writeAll]
  | cons v vs ih =>
    rw [Memory.writeAll, ih (Memory.write_wf h a v)]
    by_cases h1 : a + 1 ≤ a'
    · have h2 : a ≤ a' := by omega
      obtain ⟨k, hk⟩ : ∃ k, a' - a = k + 1 := ⟨a' - a - 1, by omega⟩
      have hk' : a' - (a + 1) = k := by omega
      rw [if_pos h1, if_pos h2, hk, hk', List.getElem?_cons_succ,
        Memory.read_write_other h (by omega)]
    · rw [if_neg h1]
      by_cases h3 : a' = a
      · subst h3; simp [Memory.read_write_same h]
      · rw [if_neg (by omega), Memory.read_write_other h h3]

/-- `Memory.readAll` reads as many bytes as asked. -/
@[simp] theorem Memory.length_readAll (m : Memory) (a n : Nat) : (m.readAll a n).length = n := by
  induction n generalizing a with
  | zero => rfl
  | succ n ih => simp [Memory.readAll, ih]

/-- The bytes `Memory.readAll` gives. -/
theorem Memory.getElem_readAll (m : Memory) (a n j : Nat) (h : j < (m.readAll a n).length) :
    (m.readAll a n)[j] = m.read (a + j) := by
  induction n generalizing a j with
  | zero => simp [Memory.readAll] at h
  | succ n ih =>
    cases j with
    | zero => rfl
    | succ j =>
      simp only [Memory.readAll, List.getElem_cons_succ]
      rw [ih]
      congr 1
      omega

/-- A byte at or past `P_MAX_PAYLOAD` reads 0 (10_state.md R55, R56). -/
theorem bufByte_of_le {base j : Nat} {s : State} (h : s.params.maxPayload ≤ j) : bufByte base j s = 0#8 := by
  simp [bufByte, Nat.not_lt.2 h]

/-- A byte below `P_MAX_PAYLOAD` is the memory's. -/
theorem bufByte_of_lt {base j : Nat} {s : State} (h : j < s.params.maxPayload) :
    bufByte base j s = s.mem.read (base + j) := by
  simp [bufByte, h]

/-- The memory of `State.reset` is in canonical form. -/
theorem reset_mem_wf : Memory.wf State.reset.mem := Sparse.wf_nil

end Sys2Proof.Machine
end

