-- ==== Sys2Proof/Laws/Words.lean ====
section
/-! SUPPORT. The bits of the words built from fields: provers read one bit of a status or command word from
these, without unfolding how the word is put together. -/

namespace Sys2Proof

/-- One bit of a placed field. -/
@[simp] theorem getLsbD_bitField (w lo : Nat) {n : Nat} (v : BitVec n) (i : Nat) :
    (bitField w lo v).getLsbD i = (decide (i < w) && decide (lo ≤ i) && v.getLsbD (i - lo)) := by
  by_cases hi : i < w
  · by_cases hlo : lo ≤ i
    · simp [bitField, hi, hlo]
    · simp [bitField, hi, hlo, Nat.lt_of_not_le hlo]
  · simp [hi, BitVec.getLsbD_of_ge _ _ (Nat.le_of_not_lt hi)]

/-- One bit of a placed field, by index. -/
@[simp] theorem getElem_bitField (w lo : Nat) {n : Nat} (v : BitVec n) (i : Nat) (h : i < w) :
    (bitField w lo v)[i] = (decide (lo ≤ i) && v.getLsbD (i - lo)) := by
  rw [← BitVec.getLsbD_eq_getElem, getLsbD_bitField]
  simp [h]

namespace Machine

theorem EventFlags.bits_bit0 (f : EventFlags) : f.bits.getLsbD 0 = f.rxDone := by simp [EventFlags.bits]
theorem EventFlags.bits_bit1 (f : EventFlags) : f.bits.getLsbD 1 = f.txDone := by simp [EventFlags.bits]
theorem EventFlags.bits_bit2 (f : EventFlags) : f.bits.getLsbD 2 = f.cmdErr := by simp [EventFlags.bits]
theorem EventFlags.bits_bit3 (f : EventFlags) : f.bits.getLsbD 3 = f.overrun := by simp [EventFlags.bits]
theorem EventFlags.bits_bit4 (f : EventFlags) : f.bits.getLsbD 4 = f.detValid := by simp [EventFlags.bits]
theorem EventFlags.bits_bit5 (f : EventFlags) : f.bits.getLsbD 5 = f.busErr := by simp [EventFlags.bits]

/-- The live bits of `STATUS` (10_state.md R27). -/
theorem statusWord_live (s : State) :
    s.statusWord.getLsbD 0 = s.tx.busy ∧ s.statusWord.getLsbD 1 = s.rxRun ∧ s.statusWord.getLsbD 2 = s.cfgValid ∧
      s.statusWord.getLsbD 3 = s.paused ∧ s.statusWord.getLsbD 4 = s.holding := by
  simp [State.statusWord]

/-- Bits 13:8 of `STATUS` are the event flags (10_state.md R27). -/
theorem statusWord_flags (s : State) (i : Nat) (h : i < 6) :
    s.statusWord.getLsbD (8 + i) = s.flags.bits.getLsbD i := by
  obtain rfl | rfl | rfl | rfl | rfl | rfl : i = 0 ∨ i = 1 ∨ i = 2 ∨ i = 3 ∨ i = 4 ∨ i = 5 := by omega
  all_goals simp [State.statusWord]

/-- `IRQ_EN` holds its six enables at 13:8 (10_state.md R28). -/
theorem irqEnWord_bit (s : State) (i : Nat) (h : i < 6) : s.irqEnWord.getLsbD (8 + i) = s.irqEn.getLsbD i := by
  have h1 : 8 + i < 32 := by omega
  simp [State.irqEnWord, h1]

/-- `ERR` after a refusal, field by field (10_state.md R30). -/
theorem errWord_fields (code : ErrCode) (detail : BitVec 8) (w : Word) :
    errWord code detail w = w.extractLsb' 24 8 ++ 0#8 ++ detail ++ code.code := by
  apply BitVec.eq_of_getLsbD_eq
  intro i hi
  simp only [errWord, BitVec.getLsbD_or, getLsbD_bitField, BitVec.getLsbD_append, BitVec.getLsbD_extractLsb', BitVec.getLsbD_zero]
  by_cases a : i < 8
  · simp [a, show ¬ 24 ≤ i by omega, show ¬ 8 ≤ i by omega, hi]
  · by_cases b : i < 16
    · simp [a, show ¬ 24 ≤ i by omega, show 8 ≤ i by omega, hi, show i - 8 < 8 by omega]
    · by_cases c : i < 24
      · simp [a, show ¬ 24 ≤ i by omega, show 8 ≤ i by omega, hi, show ¬ i - 8 < 8 by omega, show i - 8 - 8 < 8 by omega, BitVec.getLsbD_of_ge detail (i-8) (by omega)]
      · simp [a, show 24 ≤ i by omega, show 8 ≤ i by omega, hi, show ¬ i - 8 < 8 by omega, show ¬ i - 8 - 8 < 8 by omega, BitVec.getLsbD_of_ge detail (i-8) (by omega), show i - 8 - 8 - 8 = i - 24 by omega]

/-- `ERR` after a refusal as the number of 60_exceptions.md R266. -/
theorem errWord_eq (code : ErrCode) (detail : BitVec 8) (w : Word) :
    errWord code detail w = BitVec.ofNat 32 (w.toNat / 2 ^ 24 * 2 ^ 24 + detail.toNat * 2 ^ 8 + code.code.toNat) := by
  have h1 := w.isLt
  have h2 := detail.isLt
  have h3 := code.code.isLt
  rw [errWord_fields]
  apply BitVec.eq_of_toNat_eq
  simp only [BitVec.toNat_append, BitVec.extractLsb'_toNat, BitVec.toNat_ofNat]
  rw [← Nat.shiftLeft_add_eq_or_of_lt h3, ← Nat.shiftLeft_add_eq_or_of_lt h2, Nat.or_zero]
  simp only [Nat.shiftLeft_eq, Nat.shiftRight_eq_div_pow]
  omega

end Machine

end Sys2Proof
end

