-- ==== Sys2Proof/Laws/PerInstr.lean ====
section
/-! SUPPORT. Statements made for every instruction as syntax, one lemma per constructor. -/

namespace Sys2Proof.Laws.EncodingFields

/-- The encoding of a well-formed instruction has the instruction's `OPC` in bits 31:24, 0 in the reserved bits
23:16, and its operand in bits 15:0 (30_encoding.md R91). -/
def Statement (i : Instr) : Prop :=
  i.WellFormed →
    (encode i).extractLsb' 24 8 = i.opcode ∧ (encode i).extractLsb' 16 8 = 0#8 ∧
      (encode i).extractLsb' 0 16 = i.operand

/-- The three fields of any command word built from its fields. -/
theorem commandWord_fields (opc : BitVec 8) (opnd : BitVec 16) :
    (commandWord opc opnd).extractLsb' 24 8 = opc ∧ (commandWord opc opnd).extractLsb' 16 8 = 0#8 ∧
      (commandWord opc opnd).extractLsb' 0 16 = opnd := by
  refine ⟨?_, ?_, ?_⟩ <;> ext i hi
  · have h : 24 + i < 32 := by omega
    simp [commandWord, h, hi, BitVec.getLsbD_of_ge opnd (24 + i) (by omega)]
  · have h : 16 + i < 24 := by omega
    simp [commandWord, h]
  · have h : i < 24 := by omega
    have h' : i < 32 := by omega
    simp [commandWord, h, h', hi]

theorem nop : Statement .nop := fun _ => commandWord_fields _ _
theorem configure : Statement .configure := fun _ => commandWord_fields _ _
theorem softReset : Statement .softReset := fun _ => commandWord_fields _ _
theorem txFrame (len : Nat) : Statement (.txFrame len) := fun _ => commandWord_fields _ _
theorem txSymbol (sym : Nat) : Statement (.txSymbol sym) := fun _ => commandWord_fields _ _
theorem txSilence : Statement .txSilence := fun _ => commandWord_fields _ _
theorem txAbort : Statement .txAbort := fun _ => commandWord_fields _ _
theorem rxStart : Statement .rxStart := fun _ => commandWord_fields _ _
theorem rxStop : Statement .rxStop := fun _ => commandWord_fields _ _
theorem rxResync : Statement .rxResync := fun _ => commandWord_fields _ _
theorem rxSlip (count : Nat) : Statement (.rxSlip count) := fun _ => commandWord_fields _ _

end Sys2Proof.Laws.EncodingFields
end

