-- ==== Sys2Proof/Tests/Slice0.lean ====
section
/-! SUPPORT. The model's own tests. Expected values come from the spec: the encodings of 30_encoding.md R91 and R92,
the worked examples of the rules, and the vectors of 95_test_vectors.md, named in each comment. The last part gives, for
each statement of Obligations.lean that has hypotheses, a state and operands that meet all of them together. -/

namespace Sys2Proof.Tests

open Sys2Proof.Machine

/-! ## Ill-formed terms -/

/-- LEN has 16 bits (R93). -/
theorem test_ill_formed_txFrame : (Instr.txFrame 65536).wellFormed = false ∧ (Instr.txFrame 65535).wellFormed = true := by decide
/-- SYM has 4 bits (R93). -/
theorem test_ill_formed_txSymbol : (Instr.txSymbol 16).wellFormed = false ∧ (Instr.txSymbol 15).wellFormed = true := by decide
/-- COUNT has 16 bits (R93). -/
theorem test_ill_formed_rxSlip : (Instr.rxSlip 65536).wellFormed = false ∧ (Instr.rxSlip 65535).wellFormed = true := by decide

/-! ## Decoding, words written out from R91 (OPC, RSV, OPND) and R92 -/

theorem test_decode_nop : decode (0x00#8 ++ 0x00#8 ++ 0x0000#16) = .ok .nop := by decide
theorem test_decode_configure : decode (0x01#8 ++ 0x00#8 ++ 0x0000#16) = .ok .configure := by decide
theorem test_decode_softReset : decode (0x02#8 ++ 0x00#8 ++ 0x0000#16) = .ok .softReset := by decide
theorem test_decode_txFrame : decode (0x10#8 ++ 0x00#8 ++ 0x8003#16) = .ok (.txFrame 0x8003) := by decide
theorem test_decode_txSymbol : decode (0x11#8 ++ 0x00#8 ++ 0x000A#16) = .ok (.txSymbol 10) := by decide
theorem test_decode_txSilence : decode (0x12#8 ++ 0x00#8 ++ 0x0000#16) = .ok .txSilence := by decide
theorem test_decode_txAbort : decode (0x13#8 ++ 0x00#8 ++ 0x0000#16) = .ok .txAbort := by decide
theorem test_decode_rxStart : decode (0x20#8 ++ 0x00#8 ++ 0x0000#16) = .ok .rxStart := by decide
theorem test_decode_rxStop : decode (0x21#8 ++ 0x00#8 ++ 0x0000#16) = .ok .rxStop := by decide
theorem test_decode_rxResync : decode (0x22#8 ++ 0x00#8 ++ 0x0000#16) = .ok .rxResync := by decide
theorem test_decode_rxSlip : decode (0x23#8 ++ 0x00#8 ++ 0x8001#16) = .ok (.rxSlip 0x8001) := by decide

/-- Bytes in bus order, the first the least significant (R72): `cmd TX_FRAME 3` and what follows it. -/
theorem test_decode_bytes : decodeBytes [0x03#8, 0x00#8, 0x00#8, 0x10#8, 0xAA#8] = .ok (.txFrame 3, [0xAA#8]) := by decide

/-- Fewer than four bytes are no command. -/
theorem test_decode_truncated : decodeBytes [0x03#8, 0x00#8, 0x00#8] = .error .truncated := by decide

/-- The table's numbering (bit 0 the least significant) reaches the same instruction. -/
theorem test_decodeTableWord : decodeTableWord 32 0x11000003 = some (.txSymbol 3) ∧ decodeTableWord 32 0x11000010 = none := by
  decide

/-! ## Words and tables -/

/-- Check values of R151. -/
theorem test_crc_abc : crc16 [0x41#8, 0x42#8, 0x43#8] = 0xF508#16 := by decide +kernel
theorem test_crc_zero : crc16 [0x00#8] = 0xE1F0#16 ∧ crc16 [] = 0xFFFF#16 := by decide
theorem test_crc_digits :
    crc16 [0x31#8, 0x32#8, 0x33#8, 0x34#8, 0x35#8, 0x36#8, 0x37#8, 0x38#8, 0x39#8] = 0x29B1#16 := by decide +kernel

/-- V-PC-2: the frame of the concrete scenario. -/
theorem test_frame_bytes :
    frameBytes Plan.reset [0x41#8, 0x42#8, 0x43#8] =
      [0x2D#8, 0x03#8, 0x41#8, 0x42#8, 0x43#8, 0xF5#8, 0x08#8, 0xD4#8] := by decide +kernel

/-- V-PC-4: the first symbols at two bits each of a frame that begins 0x2D 0x03 (R102). -/
theorem test_frame_symbols :
    (frameSymbols Plan.reset 2 [0x41#8, 0x42#8, 0x43#8]).take 8 = [0, 2, 3, 1, 0, 0, 0, 3] := by decide

/-- The sine table has 256 entries; its quarter points and V-SY-1 (R111). -/
theorem test_lut :
    lut.length = 256 ∧ lutAt 0 = 0 ∧ lutAt 1 = 804 ∧ lutAt 32 = 23170 ∧ lutAt 64 = 32767 ∧ lutAt 128 = 0 ∧
      lutAt 129 = -804 ∧ lutAt 192 = -32767 ∧ lutAt 255 = -804 := by decide +kernel

/-- The sine table is odd about its middle and symmetric about its quarter, as the formula of R111 is. -/
theorem test_lut_symmetry :
    ∀ i : Fin 129, lutAt (i + 128) = -lutAt i ∧ lutAt (128 - i) = lutAt i := by decide +kernel

/-- V-SY-3: the first samples of `SynthBlock(1, 0)`, the tone sent as symbol 1. -/
theorem test_synth_b1 :
    (toneSamples Plan.reset 1 0 8).map BitVec.toInt = [0, 7005, 12406, 15790, 16206, 13623, 8423, 2006] := by decide

/-- R114: the reset amplitude halves, rounding ties up; the largest amplitude saturates. -/
theorem test_scaled :
    scaledSample 0x4000#16 32767 = 16384 ∧ scaledSample 0x4000#16 (-32767) = -16383 ∧
      scaledSample 0xFFFF#16 (-32767) = -32768 := by decide

/-- R133: the shift rounds toward minus infinity, so `asr(-138481, 15) = -5` contributes 25. -/
theorem test_energy : Lane.energy { phase := 0, inPhase := -138481, quad := 0 } = 25 := by decide

/-- V-DT-1: B0 is symbol 0, with its energies. -/
theorem test_detect_b0 :
    detectBlock Plan.reset (synthBlock Plan.reset 0 0) = { kind := .symbol, k1 := 0, e1 := 1717800801201, e2 := 0 } := by
  decide +kernel

/-- V-DT-2: B1 is symbol 1, with its energies. -/
theorem test_detect_b1 :
    detectBlock Plan.reset (synthBlock Plan.reset 1 0) = { kind := .symbol, k1 := 1, e1 := 1717777209600, e2 := 25 } := by
  decide +kernel

/-- V-DT-5: a constant block has no energy in any lane and is ambiguous, not silent. -/
theorem test_detect_dc :
    detectBlock Plan.reset (List.replicate 160 1000#16) = { kind := .noConfident, k1 := 0, e1 := 0, e2 := 0 } := by
  decide +kernel

/-- R182: examples of the Gray code at `D = 8`. -/
theorem test_gray : gray 8 = 0x00C ∧ gray 255 = 0x080 ∧ gray 256 = 0x180 ∧ gray 511 = 0x100 ∧ grayToBin 8 0x180 = 256 := by
  decide

/-! ## States for the tests -/

/-- The outcome's state; the reset state where there is none. -/
def nextOf : Host.Outcome State Fault Refusal → State
  | .next t => t
  | .fault _ => State.reset
  | .refused _ => State.reset

/-- The reset state with the receiver running. -/
def running : State := { State.reset with rxRun := true }

/-- The reset state sending one silent block. -/
def sending : State :=
  { State.reset with tx := { busy := true, half := true, items := [.silent], blockIdx := 0, sampleIdx := 0, phase := 0 } }

/-- A state with a packet of one byte held. -/
def holdingOne : State :=
  { State.reset with dec := { Decoder.reset with rxState := .doneHold, nbits := 8, plen := 1, pay := [0x11#8], wcount := 8 } }

/-- A legal plan with blocks of three samples. -/
def tinyPlan : Plan :=
  { Plan.reset with base := 5#24, step := 40#24, sampleRate := 100#24, samplesPerBit := 3#16 }

/-- A running receiver with two zero samples of such a block assembled. -/
def atBlockEnd : State :=
  { running with
    active := tinyPlan
    asm :=
      { Assembler.reset with
        cnt := 2
        lanes := (Assembler.reset.lanes.set 0 { Lane.zero with phase := 2560 }).set 1 { Lane.zero with phase := 23040 } } }

/-- The reset state in loopback with the receiver running. -/
def loopbackRunning : State := { running with ctrl := 4#3 }

/-- The reset state with 256 samples pushed and none seen by the core (V-CP-2). -/
def fifoFull : State := { State.reset with fifo := { State.reset.fifo with wptr := 256 } }

/-- The reset state with one sample pushed and seen by the core. -/
def fifoOne : State := { State.reset with fifo := { State.reset.fifo with wptr := 1, wqR := 1 } }

/-! ## Instructions, one step each -/

/-- P2: a step from reset runs the placed command; TX_SILENCE leaves `TX_BUSY` and `CFG_VALID`, one block to send. -/
theorem test_step_txSilence :
    regRead (nextOf (step (State.reset.withFetchWord 32 0x12000000))) .status = 0x00000005#32 ∧
      regRead (nextOf (step (State.reset.withFetchWord 32 0x12000000))) .txStatus = 0x00000001#32 := by decide

/-- R234: NOP leaves every register unchanged. -/
theorem test_nop : nextOf (exec .nop running) = running := by decide

/-- V-CC-1: `M = 16, BASE = 7000` fails check 5. -/
theorem test_configure_refused :
    regRead (nextOf (exec .configure { State.reset with
      staging := { Plan.reset with symbolCount := 16#5, base := 7000#24 } })) .err = 0x01002004#32 ∧
    regRead (nextOf (exec .configure { State.reset with
      staging := { Plan.reset with symbolCount := 16#5, base := 7000#24 } })) .status = 0x00000400#32 := by decide

/-- P2 step 8: `M = 3` is accepted and becomes active. -/
theorem test_configure_accepted :
    (nextOf (exec .configure { State.reset with staging := { Plan.reset with symbolCount := 3#5 } })).active.symbolCount
      = 3#5 := by decide

/-- V-CC-4: SOFT_RESET during a transmission with flags set gives `STATUS = 4` and keeps `RX_BUF`. -/
theorem test_softReset :
    regRead (nextOf (exec .softReset { sending with flags := { EventFlags.clear with rxDone := true, detValid := true },
                                                    mem := [(0x200, 0x41#8)] })) .status = 0x00000004#32 ∧
    (nextOf (exec .softReset { sending with mem := [(0x200, 0x41#8)] })).mem.read 0x200 = 0x41#8 := by decide

/-- V-TX-1: TX_FRAME 3 in loopback with the receiver running: 64 blocks. -/
theorem test_txFrame_accepted :
    regRead (nextOf (exec (.txFrame 3) loopbackRunning)) .status = 0x00000007#32 ∧
      regRead (nextOf (exec (.txFrame 3) loopbackRunning)) .txStatus = 0x00000040#32 := by decide

/-- P2 step 3: TX_FRAME 65 is refused with INVALID_LENGTH. -/
theorem test_txFrame_refused :
    regRead (nextOf (exec (.txFrame 65) State.reset)) .err = 0x10000006#32 ∧
      regRead (nextOf (exec (.txFrame 65) State.reset)) .errCmd = 0x10000041#32 := by decide

/-- P2 step 4: TX_SYMBOL 2 with `M = 2` is refused; step 11: while busy, BUSY comes first. -/
theorem test_txSymbol_refused :
    regRead (nextOf (exec (.txSymbol 2) State.reset)) .err = 0x11000007#32 ∧
      regRead (nextOf (exec (.txSymbol 0) sending)) .err = 0x11000002#32 := by decide

/-- V-TX-2: after TX_SYMBOL 0 five steps emit the first samples of B0. -/
theorem test_txSymbol_samples :
    ((iterate txStep 5 (nextOf (exec (.txSymbol 0) State.reset))).txo.map BitVec.toInt) = [0, 6270, 11585, 15137, 16384] ∧
      regRead (iterate txStep 5 (nextOf (exec (.txSymbol 0) State.reset))) .txStatus = 0x00050001#32 := by decide

/-- P6: TX_SILENCE in half duplex pauses the receiver and fails the packet being received. -/
theorem test_txSilence_pause :
    regRead (nextOf (exec .txSilence { running with dec := { Decoder.reset with rxState := .readPayload, plen := 3, wcount := 8 } }))
      .rxStatus = 0x00000050#32 ∧
    regRead (nextOf (exec .txSilence running)) .status = 0x0000000F#32 := by decide

/-- V-TX-2: TX_ABORT leaves `STATUS = 4` and sets no `TX_DONE`. -/
theorem test_txAbort : regRead (nextOf (exec .txAbort sending)) .status = 0x00000004#32 := by decide

/-- V-CC-2, and V-CP-3: RX_START discards what the core sees and not what is in flight. -/
theorem test_rxStart :
    regRead (nextOf (exec .rxStart State.reset)) .status = 0x00000006#32 ∧
      (nextOf (exec .rxStart { State.reset with fifo := { State.reset.fifo with wptr := 8, wqR := 5 } })).fifo.rptr = 5 := by
  decide

/-- P2 step 15: RX_START with `CFG_VALID = 0`. -/
theorem test_rxStart_refused :
    regRead (nextOf (exec .rxStart { State.reset with cfgValid := false })) .err = 0x20000003#32 := by decide

/-- R241: RX_STOP discards a packet in progress without a failure count, and keeps a held one. -/
theorem test_rxStop :
    regRead (nextOf (exec .rxStop { running with dec := { Decoder.reset with rxState := .readCrc } })) .rxStatus = 0#32 ∧
      regRead (nextOf (exec .rxStop { holdingOne with rxRun := true })) .rxStatus = 0x00000005#32 := by decide

/-- R242: RX_RESYNC from READ_PAYLOAD reads state 0; the partial block is kept. -/
theorem test_rxResync :
    regRead (nextOf (exec .rxResync { running with dec := { Decoder.reset with rxState := .readPayload } })) .rxStatus = 0#32 ∧
      (nextOf (exec .rxResync atBlockEnd)).asm.cnt = 2 := by decide

/-- R243: RX_SLIP 3 replaces what was left of an earlier slip and empties the block. -/
theorem test_rxSlip :
    regRead (nextOf (exec (.rxSlip 3) { atBlockEnd with asm := { atBlockEnd.asm with slipRemain := 9#16 } })) .slipRemain = 3#32 ∧
      (nextOf (exec (.rxSlip 3) atBlockEnd)).asm.cnt = 0 := by decide

/-! ## Other steps -/

/-- P4: halfwords and bytes of `TX_BUF` are little-endian. -/
theorem test_txBuf :
    (hostRead 0x102#12 1#2 (nextOf (hostWrite 0x100#12 2#2 0x44434241#32 State.reset))).bus = .read 0x4443#32 false ∧
      (hostRead 0x101#12 0#2 (nextOf (hostWrite 0x100#12 2#2 0x44434241#32 State.reset))).bus = .read 0x42#32 false := by decide

/-- P2 step 6: three bus errors. -/
theorem test_bus_errors :
    (hostRead 0x044#12 2#2 State.reset).bus = .read 0#32 true ∧ (hostRead 0x101#12 1#2 State.reset).bus = .read 0#32 true ∧
      (hostRead 0x300#12 2#2 State.reset).bus = .read 0#32 true := by decide

/-- R40: writing all ones to `SYMBOL_COUNT` reads back `0x1F`. -/
theorem test_register_mask :
    regRead (nextOf (hostWrite 0x028#12 2#2 0xFFFFFFFF#32 State.reset)) .symbolCount = 0x0000001F#32 := by decide

/-- V-CP-2: the 257th push is dropped with `OVERRUN`; `FIFO_LEVEL` moves with `SyncW2R`. -/
theorem test_overrun :
    regRead (srcPush 7#16 fifoFull) .status = 0x00000804#32 ∧ regRead (srcPush 7#16 fifoFull) .fifoLevel = 0#32 ∧
      regRead (syncW2R fifoFull) .fifoLevel = 0x100#32 := by decide

/-- R173: a wrong integrity field ends in BAD_CRC at its last bit. -/
theorem test_bad_crc :
    regRead (feedSymbols (frameSymbolsWith Plan.reset 1 0xB914#16 [0x41#8]) running) .rxStatus = 0x00000020#32 := by decide +kernel

/-- R172, V-PC-3: the frame of `[55 AA]` is delivered. -/
theorem test_delivery :
    regRead (feedSymbols (frameSymbols Plan.reset 1 [0x55#8, 0xAA#8]) running) .rxStatus = 0x00000200#32 ∧
      (hostRead 0x200#12 1#2 (feedSymbols (frameSymbols Plan.reset 1 [0x55#8, 0xAA#8]) running)).bus =
        .read 0xAA55#32 false := by decide +kernel

/-- R291: the register values a host reads after reset. -/
theorem test_reset_registers : ∀ r ∈ Reg.all, regRead State.reset r = r.resetValue := by decide

/-! ## Witnesses: states and operands that meet the hypotheses of the statements -/

theorem test_witness_reset_inv : State.reset.Inv :=
  ⟨by decide, by decide, by decide, by decide, by decide, by decide, by decide, by decide, by decide⟩

theorem test_witness_sending_inv : sending.Inv :=
  ⟨by decide, by decide, by decide, by decide, by decide, by decide, by decide, by decide, by decide⟩

theorem test_witness_atBlockEnd_inv : atBlockEnd.Inv :=
  ⟨by decide, by decide, by decide, by decide, by decide, by decide, by decide, by decide, by decide⟩

theorem test_witness_loopback_inv : loopbackRunning.Inv :=
  ⟨by decide, by decide, by decide, by decide, by decide, by decide, by decide, by decide, by decide⟩

theorem test_witness_fifoFull_inv : fifoFull.Inv :=
  ⟨by decide, by decide, by decide, by decide, by decide, by decide, by decide, by decide, by decide⟩

theorem test_witness_fifoOne_inv : fifoOne.Inv :=
  ⟨by decide, by decide, by decide, by decide, by decide, by decide, by decide, by decide, by decide⟩

theorem test_witness_DecodingAnEncodingGivesTheInstruction :
    (Instr.txFrame 65535).WellFormed ∧ (Instr.txSymbol 15).WellFormed ∧ (Instr.rxSlip 0).WellFormed := by decide

theorem test_witness_EncodingADecodedWordGivesTheWord : decode 0x2300FFFF#32 = .ok (.rxSlip 65535) := by decide

/-- Every cause at its boundary values, and the neighbouring words that are commands. -/
theorem test_witness_IllegalWordsAreRefusedWithNoOtherEffect :
    (∀ w ∈ [0x00010000#32, 0x23800000#32, 0x03000000#32, 0x0F000000#32, 0x14000000#32, 0x1F000000#32, 0x24000000#32,
            0xFF000000#32, 0x12000001#32, 0x00008000#32, 0x11000010#32],
      decode w = .error (.illegalCommand w)) ∧
      decode 0x1000FFFF#32 = .ok (.txFrame 65535) ∧ decode 0x1100000F#32 = .ok (.txSymbol 15) ∧
      decode 0x23000000#32 = .ok (.rxSlip 0) ∧ decode 0x02000000#32 = .ok .softReset := by
  refine ⟨fun w hw => ?_, by decide, by decide, by decide, by decide⟩
  simp only [List.mem_cons, List.not_mem_nil, or_false] at hw
  rcases hw with rfl | rfl | rfl | rfl | rfl | rfl | rfl | rfl | rfl | rfl | rfl <;> decide

theorem test_witness_AStepExecutesTheDecodedCommand :
    (State.reset.withFetchWord 32 0x13000000).sched = commandEvent 0x13000000#32 :: [] ∧
      decode 0x13000000#32 = .ok .txAbort ∧ decode 0x14000000#32 = .error (.illegalCommand 0x14000000#32) ∧
      decodeTableWord 32 0x13000000 = some .txAbort ∧ State.reset.sched = [] := by decide

theorem test_witness_NopChangesNothing : (0x00800000#32).toNat / 2 ^ 24 = 0 ∧ 0x00800000#32 ≠ 0x00000000#32 := by decide

theorem test_witness_ConfigureMakesALegalPlanActive :
    State.reset.tx.busy = false ∧ State.reset.rxRun = false ∧ State.reset.staging.checks = 0#8 ∧
      holdingOne.tx.busy = false ∧ holdingOne.rxRun = false ∧ holdingOne.staging.checks = 0#8 := by decide

theorem test_witness_ConfigureIsRefusedWhenBusyOrIllegal :
    sending.tx.busy = true ∧ running.rxRun = true ∧
      ({ State.reset with staging := { Plan.reset with symbolCount := 0#5 } } : State).staging.checks ≠ 0#8 := by decide

/-- `LEN` at both ends of its range, and every supported `M`. -/
theorem test_witness_TxFrameStartsTheFrameOfTxBuf :
    State.reset.params.Legal ∧ State.reset.tx.busy = false ∧ State.reset.cfgValid = true ∧
      State.reset.active.bps = some 1 ∧ 1 ≤ 1 ∧ 64 ≤ State.reset.params.maxPayload ∧
      { Plan.reset with symbolCount := 4#5 }.bps = some 2 ∧ { Plan.reset with symbolCount := 16#5 }.bps = some 4 := by decide

theorem test_witness_TxSymbolAndTxSilenceStartOneBlock :
    State.reset.tx.busy = false ∧ State.reset.cfgValid = true ∧ 0 < State.reset.active.m ∧ 1 < State.reset.active.m := by decide

/-- The three cases of the decoder at the acceptance. -/
theorem test_witness_HalfDuplexTransmissionPausesTheReceiver :
    ∀ d ∈ [Decoder.reset, holdingOne.dec, { Decoder.reset with rxState := .seekEnd }],
      (nextOf (exec .txSilence { running with dec := d })).tx.busy = true ∧
        exec .txSilence { running with dec := d } = .next (nextOf (exec .txSilence { running with dec := d })) ∧
        ({ running with dec := d } : State).tx.busy = false ∧ ({ running with dec := d } : State).duplex = false ∧
        ({ running with dec := d } : State).loopback = false := by
  intro d hd
  simp only [List.mem_cons, List.not_mem_nil, or_false] at hd
  rcases hd with rfl | rfl | rfl <;> exact ⟨by decide, rfl, rfl, by decide, by decide⟩

theorem test_witness_RefusalsReportTheFirstCause :
    sending.tx.busy = true ∧ ({ State.reset with cfgValid := false } : State).tx.busy = false ∧
      ({ State.reset with active := { Plan.reset with symbolCount := 3#5 } } : State).active.m = 3 ∧
      State.reset.active.m = 2 ∧ State.reset.params.maxPayload < 65 ∧ State.reset.active.m ≤ 2 ∧
      (Instr.txFrame 0).WellFormed ∧ (Instr.txSymbol 2).WellFormed := by decide

theorem test_witness_TxAbortEndsTheTransmission : sending.tx.busy = true ∧ State.reset.tx.busy = false := by decide

theorem test_witness_RxStartStartsAnEmptyReceiver :
    State.reset.cfgValid = true ∧ State.reset.rxRun = false ∧ running.cfgValid = true ∧ running.rxRun = true := by decide

theorem test_witness_RxSlipReplacesTheSlipCount : 0 < 2 ^ 16 ∧ 65535 < 2 ^ 16 := by decide

/-- An accepted word, SOFT_RESET, a refusal with code 4 and one with another code. -/
theorem test_witness_RefusalsArePrecise :
    ∀ w ∈ [0x20000000#32, 0x02000000#32, 0x01000000#32, 0x10000000#32, 0x24000000#32],
      cmdWrite w { State.reset with staging := { Plan.reset with sampleRate := 0#24 } } =
        .next (nextOf (cmdWrite w { State.reset with staging := { Plan.reset with sampleRate := 0#24 } })) := by
  intro w hw
  simp only [List.mem_cons, List.not_mem_nil, or_false] at hw
  rcases hw with rfl | rfl | rfl | rfl | rfl <;> rfl

theorem test_witness_CommandsLeaveMemoryAndTheSampleDomainAlone :
    exec .rxStart State.reset = .next (nextOf (exec .rxStart State.reset)) ∧ Instr.rxStart ≠ .softReset := ⟨rfl, by decide⟩

theorem test_witness_RegisterWritesStoreTheNamedBits :
    Reg.markers.writeMask = some 0x0000FFFF#32 ∧ Reg.status.writeMask = none ∧ Reg.cmd.writeMask = none ∧
      Reg.fifoLevel.writeMask = none ∧ Reg.fifoLevel ≠ .status ∧ Reg.fifoLevel ≠ .cmd := by decide

/-- Each cause at a boundary: the illegal size, a misaligned halfword, a narrow access to a register, the unmapped
offsets beside mapped ones; and accesses at the ends of the regions that are answered. -/
theorem test_witness_BusErrorsAreExactlyTheRefusedAccesses :
    (∀ a ∈ [((0x100#12, 3#2) : BitVec 12 × BitVec 2), (0x1FF#12, 1#2), (0x0FE#12, 1#2), (0x044#12, 2#2), (0x080#12, 2#2),
            (0x0FC#12, 2#2), (0x300#12, 0#2), (0xFFC#12, 2#2)],
      (hostRead a.1 a.2 State.reset).bus = .read 0#32 true) ∧
      ∀ a ∈ [((0x000#12, 2#2) : BitVec 12 × BitVec 2), (0x07C#12, 2#2), (0x100#12, 0#2), (0x2FC#12, 2#2), (0x2FF#12, 0#2)],
        (nextOf (hostWrite a.1 a.2 0#32 State.reset)).bus = .write false := by
  refine ⟨fun a ha => ?_, fun a ha => ?_⟩ <;> simp only [List.mem_cons, List.not_mem_nil, or_false] at ha
  · rcases ha with rfl | rfl | rfl | rfl | rfl | rfl | rfl | rfl <;> decide
  · rcases ha with rfl | rfl | rfl | rfl | rfl <;> decide

theorem test_witness_ReadsChangeNothingButTheBusErrorFlag :
    (hostRead 0x000#12 2#2 State.reset).bus = .read 0x474C4631#32 false := by decide

/-- The first and the last offset of `TX_BUF`, and the two sides of `P_MAX_PAYLOAD`. -/
theorem test_witness_TxBufIsLittleEndian :
    State.reset.mem.wf ∧ accessBytes 0#2 = some 1 ∧ accessBytes 1#2 = some 2 ∧ accessBytes 2#2 = some 4 ∧
      ∀ off ∈ [0x100#12, 0x13C#12, 0x140#12, 0x1FC#12],
        off.toNat % 4 = 0 ∧ 0x100 ≤ off.toNat ∧ off.toNat < 0x200 := by decide

theorem test_witness_HostNeverWritesRxBuf :
    State.reset.mem.wf ∧ hostWrite 0x200#12 0#2 0xFF#32 State.reset = .next (nextOf (hostWrite 0x200#12 0#2 0xFF#32 State.reset)) ∧
      accessBytes 0#2 = some 1 ∧ (0x2FF#12).toNat % 1 = 0 ∧ (0x2FF#12).toNat < 0x300 :=
  ⟨by decide, rfl, by decide, by decide, by decide⟩

theorem test_witness_StatusRegistersReadTheirFields : sending.Inv ∧ sending.tx.busy = true ∧ State.reset.tx.busy = false :=
  ⟨test_witness_sending_inv, by decide, by decide⟩

theorem test_witness_InterruptLineIsTheEnabledFlags :
    (nextOf (hostWrite (BitVec.ofNat 12 Reg.irqEn.offset) 2#2 0x400#32
      { State.reset with flags := { EventFlags.clear with cmdErr := true } })).irq = true ∧
    hostWrite (BitVec.ofNat 12 Reg.irqEn.offset) 2#2 0x400#32 State.reset =
      .next (nextOf (hostWrite (BitVec.ofNat 12 Reg.irqEn.offset) 2#2 0x400#32 State.reset)) := ⟨by decide, rfl⟩

theorem test_witness_PhaseAccumulatorIsExact :
    256 * 16000 - 1 < 256 * 16000 ∧ Plan.reset.checks = 0#8 ∧ 256 * 16000 - 1 < 256 * Plan.reset.fs ∧ 1 < Plan.reset.m := by decide

theorem test_witness_TableIndexIsTheNearestEntry : 0 < 1 := by decide

theorem test_witness_SamplesAreScaledAndRounded : ({ Plan.reset with amplitude := 0x8000#16 } : Plan).amplitude.toNat ≤ 0x8000 := by
  decide

theorem test_witness_ATransmissionEmitsItsBlocks :
    sending.Inv ∧ sending.tx.busy = true ∧ sending.tx.blockIdx = 0 ∧ sending.tx.sampleIdx = 0 ∧ sending.loopback = false :=
  ⟨test_witness_sending_inv, by decide, by decide, by decide, by decide⟩

theorem test_witness_DetectorSumsOverTheBlock :
    Plan.reset.m ≤ 16 ∧ ({ Plan.reset with symbolCount := 16#5 } : Plan).m ≤ 16 := by decide

theorem test_witness_StrongestAndSecondEnergy :
    2 ≤ [3, 3].length ∧ strongest [1, 3, 3] = 1 ∧ secondEnergy [1, 3, 3] = 3 := by decide

theorem test_witness_TheLastSampleEndsTheBlock :
    atBlockEnd.Inv ∧ atBlockEnd.asm.slipRemain = 0#16 ∧ atBlockEnd.asm.cnt + 1 = atBlockEnd.active.n :=
  ⟨test_witness_atBlockEnd_inv, by decide, by decide⟩

theorem test_witness_DetectorAccumulatorsFitTheirWidths : atBlockEnd.Inv := test_witness_atBlockEnd_inv

theorem test_witness_WholeBlocksAreDecidedAsDetectBlock :
    ({ atBlockEnd with asm := Assembler.reset } : State).asm = Assembler.reset ∧
      [1#16, 2#16, 3#16].length = atBlockEnd.active.n ∧ 0 < atBlockEnd.active.n := by decide

theorem test_witness_CrcDetectsAChangedPayloadByte : (0x00#8 : Byte) ≠ 0x80#8 := by decide

theorem test_witness_FrameSymbolsAreTheGroupedFrameBits :
    (List.replicate 255 0xFF#8).length ≤ 255 ∧ ([] : List Byte).length ≤ 255 ∧ 2079 < 8 * (255 + 5) / 1 := by decide +kernel

/-- One bit away from every way out of a field: a length of 0 and one in range, the last payload byte, a wrong and a
right integrity field, a wrong and a right end marker with `RX_DONE` 0 and 1. -/
theorem test_witness_OnlyFailureOrDeliveryLeavesAPacket :
    (decoderBit false { running with dec := { Decoder.reset with rxState := .readLen, nbits := 7 } }).2 = .stop ∧
      (decoderBit true { running with dec := { Decoder.reset with rxState := .readLen, nbits := 7 } }).1.dec.rxState =
        .readPayload ∧
      (decoderBit true { running with dec := { Decoder.reset with rxState := .readPayload, nbits := 7, plen := 1 } }).1.dec.rxState =
        .readCrc ∧
      (decoderBit true { running with dec := { Decoder.reset with rxState := .readCrc, nbits := 15 } }).2 = .stop ∧
      (decoderBit true { running with dec := { Decoder.reset with rxState := .readCrc, nbits := 15, acc := 0x7FFF#16 } }).1.dec.rxState =
        .seekEnd ∧
      (decoderBit true { running with dec := { Decoder.reset with rxState := .seekEnd, nbits := 7 } }).2 = .stop ∧
      (decoderBit false { running with dec := { Decoder.reset with rxState := .seekEnd, nbits := 7, acc := 0x6A#16 } }).1.rxOkCount =
        1#32 ∧
      (decoderBit false { running with dec := { Decoder.reset with rxState := .seekEnd, nbits := 7, acc := 0x6A#16 },
                                        flags := { EventFlags.clear with rxDone := true } }).1.dec.rxState = .doneHold := by decide

/-- Payloads at both ends of the range. -/
theorem test_witness_AFrameIsDeliveredExactlyOnce :
    running.mem.wf ∧ running.dec.rxState = .seekStart ∧ running.flags.rxDone = false ∧ running.active.bps = some 1 ∧
      NoBorder running.active.startMarker ∧ 1 ≤ [0x41#8].length ∧
      (List.replicate 64 0x41#8).length ≤ running.params.maxPayload ∧ running.params.maxPayload ≤ 255 := by decide

theorem test_witness_AWrongIntegrityFieldIsNeverDelivered :
    running.dec.rxState = .seekStart ∧ running.active.bps = some 1 ∧ NoBorder running.active.startMarker ∧
      running.active.endMarker ≠ running.active.startMarker ∧ 1 ≤ [0x41#8].length ∧
      (List.replicate 64 0x41#8).length ≤ running.params.maxPayload ∧ running.params.maxPayload ≤ 255 ∧
      0xB914#16 ≠ crc16 [0x41#8] := by decide

theorem test_witness_DecoderFailuresAreNotSurfaced :
    (decoderFeed .silence 0 { running with dec := { Decoder.reset with rxState := .readLen } }).rxOkCount = running.rxOkCount ∧
      (decoderFeed .silence 0 { running with dec := { Decoder.reset with rxState := .readLen } }).rxFailCount = 1#32 := by decide

theorem test_witness_DeliveryWritesThePacket :
    holdingOne.mem.wf ∧ holdingOne.dec.pay.length = holdingOne.dec.plen ∧ holdingOne.dec.plen ≤ 255 ∧
      holdingOne.flags.rxDone = false ∧ deliverHeldEnabled holdingOne = true := by decide

theorem test_witness_AHeldPacketWaitsForTheHost :
    holdingOne.dec.rxState = .doneHold ∧ holdingOne.flags.rxDone = false ∧
      ({ holdingOne with flags := { EventFlags.clear with rxDone := true } } : State).dec.rxState = .doneHold ∧
      runEvent .rxPop holdingOne = .next (nextOf (runEvent .rxPop holdingOne)) := ⟨by decide, by decide, by decide, rfl⟩

theorem test_witness_ADeliveredPacketIsStable :
    ({ holdingOne with flags := { EventFlags.clear with rxDone := true } } : State).mem.wf ∧
      ({ holdingOne with flags := { EventFlags.clear with rxDone := true } } : State).flags.rxDone = true ∧
      runEvent .deliverHeld holdingOne = .next (nextOf (runEvent .deliverHeld holdingOne)) := ⟨by decide, by decide, rfl⟩

theorem test_witness_GrayCodeRoundTripsAndChangesOneBit : 511 < 2 ^ (8 + 1) ∧ 0 < 2 ^ (0 + 1) ∧ 8191 < 2 ^ (12 + 1) := by decide

/-- A full buffer, one with space, and an enabled pop. -/
theorem test_witness_TheElasticBufferIsAQueue :
    fifoFull.Inv ∧ fifoFull.wlevel = 2 ^ fifoFull.params.fifoLog2 ∧ fifoOne.Inv ∧
      fifoOne.wlevel ≠ 2 ^ fifoOne.params.fifoLog2 ∧ rxPopEnabled fifoOne = true :=
  ⟨test_witness_fifoFull_inv, by decide, test_witness_fifoOne_inv, by decide, by decide⟩

theorem test_witness_PoppedSamplesAreAssembledOrDiscarded :
    State.reset.rxRun = false ∧ ({ sending with rxRun := true } : State).paused = true ∧ loopbackRunning.loopback = true ∧
      running.rxRun = true ∧ running.paused = false ∧ running.loopback = false := by decide

theorem test_witness_PauseAndHoldStopTheAssembler :
    ({ sending with rxRun := true } : State).paused = true ∧ holdingOne.dec.rxState = .doneHold ∧
      eventOfCore .txStep = true ∧
      runEvent .txStep { sending with rxRun := true } = .next (nextOf (runEvent .txStep { sending with rxRun := true })) :=
  ⟨by decide, by decide, by decide, rfl⟩

theorem test_witness_ASlipDiscardsExactlyItsCount :
    [1#16, 2#16].length ≤ ({ running with asm := { Assembler.reset with slipRemain := 2#16 } } : State).asm.slipRemain.toNat ∧
      running.asm.cnt + 1 ≠ running.active.n := by decide

/-- The smallest and the largest legal parameters, with a drawn byte and a drawn slot. -/
theorem test_witness_TheInvariantHoldsAtPowerOn :
    ∀ p ∈ [Params.mk 1 2 0, Params.mk 255 12 0x40000000],
      p.Legal ∧ Memory.wf [(0x200, 0x5A#8)] ∧ (∀ c ∈ ([(0x200, 0x5A#8)] : Memory), ramOffset p c.1) ∧
        Sparse.wf Slots.unlisted [(3, 9#16)] ∧ ∀ c ∈ ([(3, 9#16)] : Slots), c.1 < 2 ^ p.fifoLog2 := by decide

theorem test_witness_EveryStepKeepsTheInvariant :
    State.reset.Inv ∧ ∃ t, step State.reset = .next t := by
  refine ⟨test_witness_reset_inv, ?_⟩
  show ∃ t, runEvent (Config.freeEvent 0) { State.reset with turn := 1 } = .next t
  generalize Config.freeEvent 0 = e
  cases e <;> first | exact ⟨_, rfl⟩ | skip
  simp only [runEvent, hostWrite]
  split
  · exact ⟨_, rfl⟩
  · repeat' split
    all_goals first | exact ⟨_, rfl⟩ | skip
    rename_i r _
    cases r <;> first | exact ⟨_, rfl⟩ | skip
    simp only [regWrite, cmdWrite]
    split
    · rename_i i _
      cases i <;> simp only [exec, execConfigure, execTxFrame, execTxSymbol, execTxSilence, execTxAbort, execRxStart, execNop,
        execSoftReset, execRxStop, execRxResync, execRxSlip]
      all_goals repeat' split
      all_goals exact ⟨_, rfl⟩
    · exact ⟨_, rfl⟩

theorem test_witness_OnlyConfigureAndResetsChangeTheConfiguration :
    runEvent .rst running = .next (nextOf (runEvent .rst running)) ∧
      (nextOf (runEvent (commandEvent 0x01000000#32)
        { State.reset with staging := { Plan.reset with symbolCount := 3#5 } })).active ≠ Plan.reset := ⟨rfl, by decide⟩

theorem test_witness_TheCoreAlwaysBecomesQuiescent :
    State.reset.Inv ∧ Quiescent State.reset ∧ CoreStep sending (nextOf (runEvent .txStep sending)) := by
  refine ⟨test_witness_reset_inv, ⟨rfl, rfl, rfl, rfl, rfl⟩, .txStep, rfl, rfl, rfl, ?_, ?_⟩
  · intro h; cases h
  · intro h; cases h

theorem test_witness_LoopbackDeliversWhatIsSent :
    loopbackRunning.Inv ∧ loopbackRunning.rxRun = true ∧ loopbackRunning.tx.busy = false ∧
      loopbackRunning.loopback = true ∧ loopbackRunning.phaseCont = false ∧ loopbackRunning.asm = Assembler.reset ∧
      loopbackRunning.dec.rxState = .seekStart ∧ loopbackRunning.flags.rxDone = false ∧
      NoBorder loopbackRunning.active.startMarker ∧
      (∀ k, k < loopbackRunning.active.m →
        (detectBlock loopbackRunning.active (synthBlock loopbackRunning.active k 0)).kind = .symbol ∧
          (detectBlock loopbackRunning.active (synthBlock loopbackRunning.active k 0)).k1 = k) ∧
      exec (.txFrame 1) loopbackRunning = .next (nextOf (exec (.txFrame 1) loopbackRunning)) ∧
      (nextOf (exec (.txFrame 1) loopbackRunning)).tx.busy = true := by
  refine ⟨test_witness_loopback_inv, by decide, by decide, by decide, by decide, by decide, by decide, by decide, by decide,
    ?_, by rfl, by decide⟩
  intro k hk
  have hk : k < 2 := hk
  have e : loopbackRunning.active = Plan.reset := rfl
  rw [e]
  obtain rfl | rfl : k = 0 ∨ k = 1 := by omega
  · rw [test_detect_b0]; exact ⟨rfl, rfl⟩
  · rw [test_detect_b1]; exact ⟨rfl, rfl⟩

/-- The core agents and the synchronizers in turn. -/
def roundRobin (i : Nat) : Event := [Event.txStep, .rxPop, .syncW2R, .syncR2W, .deliverHeld].getD (i % 5) .txStep

/-- The run of that schedule from `s`. -/
def roundRobinRun (s : State) : Nat → State
  | 0 => s
  | i + 1 => nextOf (runEvent (roundRobin i) (roundRobinRun s i))

theorem roundRobin_core (i : Nat) : eventOfCore (roundRobin i) = true := by
  have h : i % 5 < 5 := Nat.mod_lt _ (by decide)
  unfold roundRobin
  generalize i % 5 = k at h
  obtain rfl | rfl | rfl | rfl | rfl : k = 0 ∨ k = 1 ∨ k = 2 ∨ k = 3 ∨ k = 4 := by omega
  all_goals rfl

theorem roundRobin_takes (i k : Nat) (hk : k < 5) : ∃ j, i ≤ j ∧ roundRobin j = roundRobin k :=
  ⟨5 * i + k, by omega, by rw [roundRobin, roundRobin, show (5 * i + k) % 5 = k % 5 by omega]⟩

theorem roundRobinRun_next (s : State) (i : Nat) :
    runEvent (roundRobin i) (roundRobinRun s i) = .next (roundRobinRun s (i + 1)) := by
  have h := roundRobin_core i
  show _ = Host.Outcome.next (nextOf (runEvent (roundRobin i) (roundRobinRun s i)))
  generalize roundRobin i = e at h ⊢
  cases e <;> first | rfl | cases h

/-- A core step leaves `CTRL` alone. -/
theorem roundRobinRun_ctrl (s : State) (i : Nat) : (roundRobinRun s i).ctrl = s.ctrl := by
  induction i with
  | zero => rfl
  | succ i ih =>
    refine Eq.trans ?_ ih
    have h := roundRobin_core i
    show (nextOf (runEvent (roundRobin i) (roundRobinRun s i))).ctrl = _
    generalize roundRobinRun s i = t
    generalize roundRobin i = e at h ⊢
    cases e with
    | txStep =>
      show (if txStepEnabled t = true then txStep t else t).ctrl = t.ctrl
      split
      · exact txStep_ctrl t
      · rfl
    | rxPop =>
      show (if rxPopEnabled t = true then rxPop t else t).ctrl = t.ctrl
      split
      · exact rxPop_ctrl t
      · rfl
    | deliverHeld =>
      show (if deliverHeldEnabled t = true then deliverHeld t else t).ctrl = t.ctrl
      split <;> rfl
    | syncW2R => rfl
    | syncR2W => rfl
    | hostRead _ _ => cases h
    | hostWrite _ _ _ => cases h
    | srcPush _ => cases h
    | rst => cases h

/-- From a held packet; and from a transmission of one silent block to the output port. -/
theorem test_witness_AFairRunDeliversAHeldPacket :
    (AgentRun roundRobin (roundRobinRun holdingOne) ∧ WeaklyFair roundRobin (roundRobinRun holdingOne) ∧
      (roundRobinRun holdingOne 0).dec.rxState = .doneHold ∧ (roundRobinRun holdingOne 0).flags.rxDone = false ∧
      ∀ j, 0 ≤ j → roundRobin j ≠ .rst ∧ roundRobin j ≠ commandEvent 0x02000000#32) ∧
    AgentRun roundRobin (roundRobinRun sending) ∧ OutputAccepts roundRobin (roundRobinRun sending) ∧
      (roundRobinRun sending 0).Inv ∧ (roundRobinRun sending 0).tx.busy = true ∧
      ∀ j, 0 ≤ j → (roundRobinRun sending j).loopback = false := by
  refine ⟨⟨roundRobinRun_next _, fun e i he => ?_, rfl, rfl, fun j _ => ?_⟩, roundRobinRun_next _,
    fun i _ => roundRobin_takes i 0 (by decide), test_witness_sending_inv, by decide, fun j _ => ?_⟩
  · have he := he i le_rfl
    cases e with
    | txStep => exact roundRobin_takes i 0 (by decide)
    | rxPop => exact roundRobin_takes i 1 (by decide)
    | syncW2R => exact roundRobin_takes i 2 (by decide)
    | syncR2W => exact roundRobin_takes i 3 (by decide)
    | deliverHeld => exact roundRobin_takes i 4 (by decide)
    | hostRead _ _ => cases he
    | hostWrite _ _ _ => cases he
    | srcPush _ => cases he
    | rst => cases he
  · have h := roundRobin_core j
    constructor <;> intro e <;> rw [e] at h <;> cases h
  · rw [State.loopback, roundRobinRun_ctrl]; decide

end Sys2Proof.Tests
end

section
/-! SUPPORT. What a step can do to the active configuration `A`, `CFG_VALID` and the synthesis parameters
(10_state.md R41, 45_control_commands.md R235): the frame `ConfigKept`, what each agent's step and each command can
answer, and which bus access is the one that issues a given command word. -/

namespace Sys2Proof.Machine

/-! ## The frame -/

/-- `t` has the synthesis parameters, the active configuration and `CFG_VALID` of `s`. -/
structure ConfigKept (s t : State) : Prop where
  params : t.params = s.params
  active : t.active = s.active
  cfgValid : t.cfgValid = s.cfgValid

theorem ConfigKept.refl (s : State) : ConfigKept s s := ⟨rfl, rfl, rfl⟩

/-- Transitivity, the later step first: it names the state in between. -/
theorem ConfigKept.after {s t u : State} (h : ConfigKept t u) (h' : ConfigKept s t) : ConfigKept s u :=
  ⟨h.params.trans h'.params, h.active.trans h'.active, h.cfgValid.trans h'.cfgValid⟩

theorem AssembleFrame.configKept {s t : State} (h : AssembleFrame s t) : ConfigKept s t :=
  ⟨h.params_eq, h.active_eq, h.cfgValid_eq⟩

/-! ## The core's own steps -/

theorem cmdRefuse_configKept (code : ErrCode) (detail : BitVec 8) (w : Word) (s : State) :
    ConfigKept s (cmdRefuse code detail w s) := ⟨rfl, rfl, rfl⟩

theorem decoderClearUnlessHeld_configKept (s : State) : ConfigKept s (decoderClearUnlessHeld s) := by
  obtain ⟨-, h⟩ | ⟨-, h⟩ := decoderClearUnlessHeld_cases s <;> rw [h]
  · exact .refl s
  · exact (decoderClear_frame s).toAssemble.configKept

/-- Clearing the assembler and a decoder that holds no packet, as CONFIGURE, RX_START and RX_STOP do. -/
theorem clears_configKept (s : State) : ConfigKept s (decoderClearUnlessHeld (assemblerClear s)) :=
  (decoderClearUnlessHeld_configKept _).after (assemblerClear_frame s).configKept

theorem txAccept_configKept (items : List TxItem) (s : State) : ConfigKept s (txAccept items s) := by
  unfold txAccept
  dsimp only
  split
  · exact (pauseEnter_frame _).configKept.after ⟨rfl, rfl, rfl⟩
  · exact ⟨rfl, rfl, rfl⟩

theorem txAdvance_configKept (s : State) : ConfigKept s (txAdvance s) := by
  obtain ⟨-, h⟩ | ⟨-, -, h⟩ | ⟨-, -, h⟩ := txAdvance_cases s <;> rw [h] <;> exact ⟨rfl, rfl, rfl⟩

theorem txStep_configKept (s : State) : ConfigKept s (txStep s) := by
  refine (txAdvance_configKept _).after ?_
  split
  · exact (loopbackIn_frame _ _).configKept.after ⟨rfl, rfl, rfl⟩
  · exact ⟨rfl, rfl, rfl⟩

theorem rxPop_configKept (s : State) : ConfigKept s (rxPop s) := by
  unfold rxPop
  dsimp only
  split
  · exact (assemble_frame _ _).configKept.after ⟨rfl, rfl, rfl⟩
  · exact ⟨rfl, rfl, rfl⟩

theorem srcPush_configKept (x : Sample) (s : State) : ConfigKept s (srcPush x s) := by
  unfold srcPush
  dsimp only
  split <;> exact ⟨rfl, rfl, rfl⟩

/-! ## The commands -/

/-- A command with word `w` that asks for a transmission is refused with some code, or a list of blocks is accepted
(60_exceptions.md R265, 44_send_path.md R212). -/
def RefusedOrAccepted (w : Word) (s t : State) : Prop :=
  (∃ code, t = cmdRefuse code 0#8 w s) ∨ ∃ items, t = txAccept items s

theorem RefusedOrAccepted.configKept {w : Word} {s t : State} (h : RefusedOrAccepted w s t) : ConfigKept s t := by
  obtain ⟨code, rfl⟩ | ⟨items, rfl⟩ := h
  · exact cmdRefuse_configKept ..
  · exact txAccept_configKept ..

theorem execTxFrame_refusedOrAccepted {len : Nat} {s t : State} (h : execTxFrame len s = .next t) :
    RefusedOrAccepted (encode (.txFrame len)) s t := by
  simp only [execTxFrame] at h
  split at h
  · cases h; exact .inl ⟨_, rfl⟩
  split at h
  · cases h; exact .inl ⟨_, rfl⟩
  split at h
  · cases h; exact .inl ⟨_, rfl⟩
  split at h <;> cases h
  · exact .inl ⟨_, rfl⟩
  · exact .inr ⟨_, rfl⟩

theorem execTxSymbol_refusedOrAccepted {sym : Nat} {s t : State} (h : execTxSymbol sym s = .next t) :
    RefusedOrAccepted (encode (.txSymbol sym)) s t := by
  simp only [execTxSymbol] at h
  split at h
  · cases h; exact .inl ⟨_, rfl⟩
  split at h
  · cases h; exact .inl ⟨_, rfl⟩
  split at h <;> cases h
  · exact .inl ⟨_, rfl⟩
  · exact .inr ⟨_, rfl⟩

theorem execTxSilence_refusedOrAccepted {s t : State} (h : execTxSilence s = .next t) :
    RefusedOrAccepted (encode .txSilence) s t := by
  simp only [execTxSilence] at h
  split at h
  · cases h; exact .inl ⟨_, rfl⟩
  split at h <;> cases h
  · exact .inl ⟨_, rfl⟩
  · exact .inr ⟨_, rfl⟩

theorem execTxAbort_configKept {s t : State} (h : execTxAbort s = .next t) : ConfigKept s t := by
  unfold execTxAbort at h
  split at h <;> cases h
  · exact ⟨rfl, rfl, rfl⟩
  · exact .refl s

theorem execRxStart_configKept {s t : State} (h : execRxStart s = .next t) : ConfigKept s t := by
  simp only [execRxStart] at h
  split at h
  · cases h; exact cmdRefuse_configKept ..
  split at h <;> cases h
  · exact .refl s
  · have hc := (clears_configKept { s with fifo := s.fifo.flushed }).after (s := s) ⟨rfl, rfl, rfl⟩
    exact ⟨hc.params, hc.active, hc.cfgValid⟩

/-- CONFIGURE makes the staged plan active, but it does not touch the synthesis parameters. -/
theorem execConfigure_params {s t : State} (h : execConfigure s = .next t) : t.params = s.params := by
  simp only [execConfigure] at h
  split at h
  · cases h; rfl
  split at h <;> cases h
  · rfl
  · exact (clears_configKept _).params

/-- No command but CONFIGURE and SOFT_RESET changes the active configuration or `CFG_VALID`, and none changes the
parameters (45_control_commands.md R235). -/
theorem exec_configKept_or {i : Instr} {s t : State} (h : exec i s = .next t) :
    ConfigKept s t ∨ t.params = s.params ∧ (i = .configure ∨ i = .softReset) := by
  cases i with
  | configure => exact .inr ⟨execConfigure_params h, .inl rfl⟩
  | softReset => cases h; exact .inr ⟨rfl, .inr rfl⟩
  | nop => cases h; exact .inl (.refl s)
  | txFrame len => exact .inl (execTxFrame_refusedOrAccepted h).configKept
  | txSymbol sym => exact .inl (execTxSymbol_refusedOrAccepted h).configKept
  | txSilence => exact .inl (execTxSilence_refusedOrAccepted h).configKept
  | txAbort => exact .inl (execTxAbort_configKept h)
  | rxStart => exact .inl (execRxStart_configKept h)
  | rxStop => cases h; exact .inl ((clears_configKept _).after ⟨rfl, rfl, rfl⟩)
  | rxResync => cases h; exact .inl (decoderClearUnlessHeld_configKept s)
  | rxSlip count => cases h; exact .inl ⟨rfl, rfl, rfl⟩

/-! ## Decoding -/

/-- A decoded instruction comes from a row that the word matches. -/
theorem exists_row_of_decodeRows_eq_ok {rows : List OpcodeRow} {w : Word} {i : Instr}
    (h : decodeRows rows w = .ok i) : ∃ r ∈ rows, w &&& r.mask = r.pattern ∧ r.instr w = i := by
  induction rows with
  | nil => cases h
  | cons r rest ih =>
    unfold decodeRows at h
    split at h
    next hm =>
      cases h
      exact ⟨r, List.mem_cons_self, eq_of_beq hm, rfl⟩
    next =>
      obtain ⟨r', hr', hw⟩ := ih h
      exact ⟨r', List.mem_cons_of_mem _ hr', hw⟩

/-- CONFIGURE and SOFT_RESET have one command word each, the one that encodes them (30_encoding.md R92). -/
theorem eq_encode_of_decode_eq_ok {w : Word} {i : Instr} (h : decode w = .ok i)
    (hi : i = .configure ∨ i = .softReset) : w = encode i := by
  obtain ⟨r, hr, hw, rfl⟩ := exists_row_of_decodeRows_eq_ok h
  have fullMask : w &&& 0xFFFFFFFF#32 = w := BitVec.and_allOnes
  have encConfigure : encode .configure = 0x01000000#32 := by decide
  have encSoftReset : encode .softReset = 0x02000000#32 := by decide
  simp only [opcodeRows, List.mem_cons, List.not_mem_nil, or_false] at hr
  rcases hr with rfl | rfl | rfl | rfl | rfl | rfl | rfl | rfl | rfl | rfl | rfl <;> rcases hi with hi | hi <;>
    cases hi
  · exact fullMask.symm.trans (hw.trans encConfigure.symm)
  · exact fullMask.symm.trans (hw.trans encSoftReset.symm)

/-! ## The host's accesses -/

/-- A window offset and the bus address it stands at (20_memory.md R70). -/
theorem windowOffset_eq_some_iff (p : Params) (addr : Nat) (off : BitVec 12) :
    windowOffset p addr = some off ↔ addr = p.baseAddr + off.toNat := by
  unfold windowOffset
  split
  next h =>
    rw [Option.some.injEq, ← BitVec.toNat_inj, BitVec.toNat_ofNat]
    omega
  next h =>
    simp only [reduceCtorEq, false_iff]
    omega

theorem offset_eq_of_regAt_eq_some {o : Nat} {r : Reg} (h : regAt o = some r) : r.offset = o := by
  simpa using List.find?_some h

theorem size_eq_of_accessBytes_eq_four {size : BitVec 2} (h : accessBytes size = some 4) : size = 2#2 := by
  unfold accessBytes at h
  split at h
  · cases h
  split at h
  · cases h
  split at h
  · assumption
  · cases h

/-- A read is answered with an error or with a value; it does nothing else (20_memory.md R74, R78). -/
theorem hostRead_cases (off : BitVec 12) (size : BitVec 2) (s : State) :
    hostRead off size s = readError s ∨ ∃ v, hostRead off size s = answerRead v s := by
  simp only [hostRead]
  split
  · exact .inl rfl
  split
  · exact .inl rfl
  split
  · split
    · exact .inl rfl
    split
    · exact .inl rfl
    · exact .inr ⟨_, rfl⟩
  split
  · exact .inr ⟨_, rfl⟩
  split
  · exact .inr ⟨_, rfl⟩
  · exact .inl rfl

theorem hostRead_configKept (off : BitVec 12) (size : BitVec 2) (s : State) : ConfigKept s (hostRead off size s) := by
  obtain h | ⟨v, h⟩ := hostRead_cases off size s <;> rw [h] <;> exact ⟨rfl, rfl, rfl⟩

/-- A write is a 32-bit write of one register, or it is answered and changes at most the memory besides
(20_memory.md R75 to R78). -/
theorem hostWrite_cases (off : BitVec 12) (size : BitVec 2) (d : Word) (s : State) :
    (∃ r, size = 2#2 ∧ r.offset = off.toNat ∧ hostWrite off size d s = regWrite d (answerWrite s) r) ∨
      hostWrite off size d s = .next (writeError s) ∨
      ∃ m, hostWrite off size d s = .next (answerWrite { s with mem := m }) := by
  unfold hostWrite
  cases hn : accessBytes size with
  | none => exact .inr (.inl rfl)
  | some n =>
    dsimp only
    split
    · exact .inr (.inl rfl)
    split
    · by_cases h4 : n = 4
      · subst h4
        cases hr : regAt off.toNat with
        | none => exact .inr (.inl rfl)
        | some r => exact .inl ⟨r, size_eq_of_accessBytes_eq_four hn, offset_eq_of_regAt_eq_some hr, rfl⟩
      · exact .inr (.inl (if_pos h4))
    split
    · exact .inr (.inr ⟨_, rfl⟩)
    split
    · exact .inr (.inr ⟨s.mem, rfl⟩)
    · exact .inr (.inl rfl)

/-- No register but `CMD` writes through to the active configuration (10_state.md R40). -/
theorem regWrite_configKept {d : Word} {s t : State} {r : Reg} (hr : r ≠ .cmd) (h : regWrite d s r = .next t) :
    ConfigKept s t := by
  cases r with
  | cmd => exact absurd rfl hr
  | _ => cases h; exact ⟨rfl, rfl, rfl⟩

/-- The word of a write to `CMD` that does not keep the configuration is CONFIGURE or SOFT_RESET. -/
theorem cmdWrite_configKept_or {w : Word} {s t : State} (h : cmdWrite w s = .next t) :
    ConfigKept s t ∨ t.params = s.params ∧ (w = 0x01000000#32 ∨ w = 0x02000000#32) := by
  unfold cmdWrite at h
  split at h
  next i hi =>
    obtain hk | ⟨hp, rfl | rfl⟩ := exec_configKept_or h
    · exact .inl hk
    · exact .inr ⟨hp, .inl (eq_encode_of_decode_eq_ok hi (.inl rfl))⟩
    · exact .inr ⟨hp, .inr (eq_encode_of_decode_eq_ok hi (.inr rfl))⟩
  next => cases h; exact .inl (cmdRefuse_configKept ..)

/-- A host write keeps the configuration, or it issues CONFIGURE or SOFT_RESET. -/
theorem hostWrite_configKept_or {off : BitVec 12} {size : BitVec 2} {d : Word} {s t : State}
    (h : hostWrite off size d s = .next t) :
    ConfigKept s t ∨
      t.params = s.params ∧
        (Event.hostWrite off size d = commandEvent 0x01000000#32 ∨
          Event.hostWrite off size d = commandEvent 0x02000000#32) := by
  obtain ⟨r, rfl, ho, hw⟩ | hw | ⟨m, hw⟩ := hostWrite_cases off size d s <;> rw [hw] at h
  · by_cases hr : r = .cmd
    · subst hr
      obtain rfl : off = cmdOffset := BitVec.eq_of_toNat_eq ho.symm
      obtain hk | ⟨hp, rfl | rfl⟩ := cmdWrite_configKept_or h
      · exact .inl (hk.after ⟨rfl, rfl, rfl⟩)
      · exact .inr ⟨hp, .inl rfl⟩
      · exact .inr ⟨hp, .inr rfl⟩
    · exact .inl ((regWrite_configKept hr h).after ⟨rfl, rfl, rfl⟩)
  · cases h; exact .inl ⟨rfl, rfl, rfl⟩
  · cases h; exact .inl ⟨rfl, rfl, rfl⟩

/-! ## Every event -/

/-- The step of an agent that may not be enabled keeps the configuration if the enabled step does. -/
theorem configKept_ite {c : Bool} {s t : State} (h : ConfigKept s t) : ConfigKept s (if c then t else s) := by
  split
  · exact h
  · exact .refl s

/-- Every event keeps the configuration, except CONFIGURE, SOFT_RESET and `rst`, which keep the parameters. -/
theorem runEvent_configKept_or {e : Event} {s t : State} (h : runEvent e s = .next t) :
    ConfigKept s t ∨
      t.params = s.params ∧ (e = commandEvent 0x01000000#32 ∨ e = commandEvent 0x02000000#32 ∨ e = .rst) := by
  cases e with
  | hostWrite off size d =>
    obtain hk | ⟨hp, he | he⟩ := hostWrite_configKept_or h
    · exact .inl hk
    · exact .inr ⟨hp, .inl he⟩
    · exact .inr ⟨hp, .inr (.inl he)⟩
  | rst => cases h; exact .inr ⟨rfl, .inr (.inr rfl)⟩
  | syncW2R => cases h; exact .inl ⟨rfl, rfl, rfl⟩
  | syncR2W => cases h; exact .inl ⟨rfl, rfl, rfl⟩
  | hostRead off size => cases h; exact .inl (hostRead_configKept ..)
  | srcPush x => cases h; exact .inl (srcPush_configKept ..)
  | txStep => cases h; exact .inl (configKept_ite (txStep_configKept s))
  | rxPop => cases h; exact .inl (configKept_ite (rxPop_configKept s))
  | deliverHeld => cases h; exact .inl (configKept_ite (deliver_frame s).toAssemble.configKept)

/-- Settles O56: every event but the three named ones is in the frame `ConfigKept`. -/
theorem onlyConfigureAndResetsChangeTheConfiguration : Obligations.OnlyConfigureAndResetsChangeTheConfiguration := by
  unfold Obligations.OnlyConfigureAndResetsChangeTheConfiguration
  intro e s t h
  obtain hk | ⟨hp, he⟩ := runEvent_configKept_or h
  · exact ⟨hk.params, fun addr off => hk.params ▸ windowOffset_eq_some_iff t.params addr off,
      .inl ⟨hk.active, hk.cfgValid⟩⟩
  · exact ⟨hp, fun addr off => hp ▸ windowOffset_eq_some_iff t.params addr off, .inr he⟩

end Sys2Proof.Machine
end

section
/-! SUPPORT. The invariant of Safety.lean taken apart into named parts, each about the component of the state it
speaks of: what the decoder and the packet storage satisfy, what the assembler's sums satisfy, and what is left while
nothing is assembled (10_state.md R51 to R56). -/

namespace Sys2Proof.Machine

/-! ## The parts -/

/-- A field of `width` bits is being shifted in and is not complete yet. -/
def Decoder.Shifting (width : Nat) (d : Decoder) : Prop := d.nbits < width ∧ d.acc.toNat < 2 ^ d.nbits

/-- The payload is complete and not empty. -/
def Decoder.PayloadComplete (d : Decoder) : Prop := 1 ≤ d.plen ∧ d.pay.length = d.plen

/-- The fields of a decoder that is in `state` (42_packet_codec.md R163 to R169). -/
def Decoder.FieldsIn (d : Decoder) (state : RxState) : Prop :=
  match state with
  | .seekStart => d.acc = 0#16 ∧ d.nbits = 0 ∧ d.plen = 0 ∧ d.pay = []
  | .readLen => d.Shifting 8 ∧ d.plen = 0 ∧ d.pay = []
  | .readPayload => d.Shifting 8 ∧ d.pay.length < d.plen
  | .readCrc => d.Shifting 16 ∧ d.PayloadComplete
  | .seekEnd => d.Shifting 8 ∧ d.PayloadComplete
  | .doneHold => d.nbits = 8 ∧ d.PayloadComplete

/-- The ranges of the decoder (10_state.md R51). -/
structure Decoder.InRange (maxPayload : Nat) (d : Decoder) : Prop where
  wcount : d.wcount ≤ 8
  plen : d.plen ≤ maxPayload
  fields : d.FieldsIn d.rxState

/-- Nothing is in the decoder but a held packet (44_send_path.md R214). -/
def Decoder.Quiet (d : Decoder) : Prop :=
  d.rxState = .doneHold ∨ d.rxState = .seekStart ∧ d.win = 0#8 ∧ d.wcount = 0

/-- The block power and the lanes of the detector bank are the sums of `cnt` samples (41_frequency_detector.md R131,
R139). -/
def Assembler.SumsInRange (p : Plan) (a : Assembler) : Prop :=
  a.power ≤ a.cnt * 32768 ^ 2 ∧
    ∀ k : Fin 16, if k.val < p.m then a.lanes[k].inRange p k a.cnt else a.lanes[k] = Lane.zero

/-- The pointers of the elastic buffer, its occupancy as each domain sees it, and its slots (10_state.md R54,
43_capture_pipeline.md R186). -/
structure Elastic.InRange (d : Nat) (e : Elastic) : Prop where
  wptr : e.wptr < 2 ^ (d + 1)
  rptr : e.rptr < 2 ^ (d + 1)
  wqR : e.wqR < 2 ^ (d + 1)
  rqW : e.rqW < 2 ^ (d + 1)
  coreSees : ptrSub d e.wqR e.rptr ≤ ptrSub d e.wptr e.rptr
  sampleSees : ptrSub d e.wptr e.rptr ≤ ptrSub d e.wptr e.rqW
  room : ptrSub d e.wptr e.rqW ≤ 2 ^ d
  slots : Sparse.wf Slots.unlisted e.slots
  keys : ∀ c ∈ e.slots, c.1 < 2 ^ d

/-- What the decoder's steps rely on and keep: the packet in the decoder and the storage it is delivered to. -/
structure State.PacketInv (s : State) : Prop where
  legal : s.params.Legal
  mem : s.MemInv
  rxLen : s.rxLen.toNat ≤ s.params.maxPayload
  dec : s.dec.InRange s.params.maxPayload

/-- Every element of the state is in its range. -/
structure State.Ranges (s : State) : Prop extends State.PacketInv s where
  cfg : s.CfgInv
  err : s.ErrInv
  tx : s.TxInv
  cnt : s.asm.cnt < s.active.n
  sums : s.asm.SumsInRange s.active
  fifo : s.fifo.InRange s.params.fifoLog2

/-- The block is empty, and nothing is in the decoder but a held packet (44_send_path.md R214). -/
def State.Quiet (s : State) : Prop := s.asm.cnt = 0 ∧ s.dec.Quiet

/-- The invariant `State.Inv`, by its parts. -/
structure State.Invariant (s : State) : Prop extends State.Ranges s where
  quiet : s.capturing = false → s.Quiet

/-- The decoder's part of the invariant. -/
theorem decInv_iff (s : State) :
    s.DecInv ↔ s.dec.InRange s.params.maxPayload ∧ (s.capturing = false → s.dec.Quiet) := by
  constructor
  · rintro ⟨hw, hSeek, hLen, hPay, hCrc, hEnd, hHold, hp, hq⟩
    refine ⟨⟨hw, hp, ?_⟩, hq⟩
    cases h : s.dec.rxState with
    | seekStart => exact hSeek h
    | readLen => exact and_assoc.2 (hLen h)
    | readPayload => exact and_assoc.2 (hPay h)
    | readCrc => exact and_assoc.2 (hCrc h)
    | seekEnd => exact and_assoc.2 (hEnd h)
    | doneHold => exact hHold h
  · rintro ⟨⟨hw, hp, hf⟩, hq⟩
    have fields : ∀ {state}, s.dec.rxState = state → s.dec.FieldsIn state := fun h => h ▸ hf
    exact ⟨hw, fields, fun h => and_assoc.1 (fields h), fun h => and_assoc.1 (fields h),
      fun h => and_assoc.1 (fields h), fun h => and_assoc.1 (fields h), fields, hp, hq⟩

/-- The elastic buffer's part of the invariant. -/
theorem fifoInv_iff (s : State) : s.FifoInv ↔ s.fifo.InRange s.params.fifoLog2 := by
  constructor
  · rintro ⟨wptr, rptr, wqR, rqW, coreSees, sampleSees, room, slots, keys⟩
    exact { wptr, rptr, wqR, rqW, coreSees, sampleSees, room, slots, keys }
  · intro h
    exact ⟨h.wptr, h.rptr, h.wqR, h.rqW, h.coreSees, h.sampleSees, h.room, h.slots, h.keys⟩

/-- `State.Invariant` is the invariant of Safety.lean. -/
theorem invariant_iff (s : State) : s.Invariant ↔ s.Inv := by
  constructor
  · intro h
    exact ⟨h.legal, h.mem, h.cfg, h.err, h.tx, ⟨h.cnt, h.sums.1, h.sums.2, fun closed => (h.quiet closed).1⟩,
      (decInv_iff s).2 ⟨h.dec, fun closed => (h.quiet closed).2⟩, (fifoInv_iff s).2 h.fifo, h.rxLen⟩
  · rintro ⟨legal, mem, cfg, err, tx, ⟨cnt, power, lanes, quietAsm⟩, dec, fifo, rxLen⟩
    obtain ⟨inRange, quietDec⟩ := (decInv_iff s).1 dec
    exact { legal, mem, rxLen, dec := inRange, cfg, err, tx, cnt, sums := ⟨power, lanes⟩,
            fifo := (fifoInv_iff s).1 fifo, quiet := fun closed => ⟨quietAsm closed, quietDec closed⟩ }

/-! ## A legal configuration -/

/-- Bits 1 and 2 of the mask: a configuration that passes every check has a sample rate and a block length
(45_control_commands.md R237). -/
theorem Plan.pos_of_checks_eq_zero {p : Plan} (h : p.checks = 0#8) : 0 < p.fs ∧ 0 < p.n := by
  have rate : p.checks.getLsbD 1 = p.failsRate := by simp [Plan.checks]
  have length : p.checks.getLsbD 2 = p.failsLength := by simp [Plan.checks]
  rw [h] at rate length
  constructor
  · exact Nat.pos_of_ne_zero (of_decide_eq_false rate.symm)
  · exact Nat.pos_of_ne_zero (of_decide_eq_false length.symm)

theorem State.Ranges.fs_pos {s : State} (h : s.Ranges) : 0 < s.active.fs := (Plan.pos_of_checks_eq_zero h.cfg).1
theorem State.Ranges.n_pos {s : State} (h : s.Ranges) : 0 < s.active.n := (Plan.pos_of_checks_eq_zero h.cfg).2

/-! ## Empty parts -/

/-- A cleared decoder is in range, with any failure reason. -/
theorem Decoder.inRange_cleared (r : FailReason) (maxPayload : Nat) :
    ({ Decoder.reset with failReason := r } : Decoder).InRange maxPayload :=
  ⟨Nat.zero_le 8, Nat.zero_le maxPayload, rfl, rfl, rfl, rfl⟩

/-- A cleared decoder holds nothing. -/
theorem Decoder.quiet_cleared (r : FailReason) : ({ Decoder.reset with failReason := r } : Decoder).Quiet :=
  .inr ⟨rfl, rfl, rfl⟩

/-- A cleared bank is the sum of no samples. -/
theorem Assembler.sumsInRange_cleared (p : Plan) (a : Assembler) : a.cleared.SumsInRange p := by
  refine ⟨Nat.zero_le _, fun k => ?_⟩
  have zero : a.cleared.lanes[k] = Lane.zero := by simp
  rw [zero]
  split
  · simp [Lane.inRange, Lane.zero]
  · rfl

/-! ## Capturing -/

/-- Samples are not assembled while the receiver is stopped or a half-duplex transmission pauses it. -/
theorem capturing_eq_false_iff (s : State) :
    s.capturing = false ↔ s.rxRun = false ∨ s.tx.busy = true ∧ s.tx.half = true := by
  cases h : s.rxRun <;> simp [State.capturing, State.paused, h]

theorem AssembleFrame.capturing_eq {s t : State} (h : AssembleFrame s t) : t.capturing = s.capturing := by
  simp only [State.capturing, State.paused, h.rxRun_eq, h.tx_eq]

end Sys2Proof.Machine
end

section
/-! SUPPORT. The elastic buffer's part of the invariant: pointer arithmetic modulo `2^(D+1)`, the Gray code's round
trip, and the four moves of the pointers (43_capture_pipeline.md R180 to R187). -/

namespace Sys2Proof.Machine

/-! ## Pointers -/

/-- The difference of two pointers: the distance from `b` up to `a`, around the wrap where `a` has wrapped. -/
theorem ptrSub_eq {d a b : Nat} (ha : a < 2 ^ (d + 1)) (hb : b < 2 ^ (d + 1)) :
    ptrSub d a b = if b ≤ a then a - b else a + 2 ^ (d + 1) - b := by
  unfold ptrSub
  generalize 2 ^ (d + 1) = m at *
  split
  next h => rw [Int.emod_eq_of_lt (by omega) (by omega)]; omega
  next h => rw [← Int.add_emod_right, Int.emod_eq_of_lt (by omega) (by omega)]; omega

theorem ptrNext_eq {d a : Nat} (ha : a < 2 ^ (d + 1)) :
    ptrNext d a = if a + 1 = 2 ^ (d + 1) then 0 else a + 1 := by
  unfold ptrNext
  split
  next h => rw [h, Nat.mod_self]
  next h => exact Nat.mod_eq_of_lt (by omega)

theorem ptrNext_lt (d a : Nat) : ptrNext d a < 2 ^ (d + 1) := Nat.mod_lt _ (Nat.two_pow_pos _)

/-- Advancing the upper pointer adds one to a difference that is not at the wrap. -/
theorem ptrSub_ptrNext_left {d a b : Nat} (ha : a < 2 ^ (d + 1)) (hb : b < 2 ^ (d + 1))
    (h : ptrSub d a b + 1 < 2 ^ (d + 1)) : ptrSub d (ptrNext d a) b = ptrSub d a b + 1 := by
  rw [ptrSub_eq ha hb] at h ⊢
  rw [ptrSub_eq (ptrNext_lt d a) hb, ptrNext_eq ha]
  generalize 2 ^ (d + 1) = m at *
  split_ifs at h ⊢ <;> omega

/-- Advancing the lower pointer takes one from a difference that is not 0. -/
theorem ptrSub_ptrNext_right {d a b : Nat} (ha : a < 2 ^ (d + 1)) (hb : b < 2 ^ (d + 1)) (h : a ≠ b) :
    ptrSub d a (ptrNext d b) + 1 = ptrSub d a b := by
  rw [ptrSub_eq ha hb, ptrSub_eq ha (ptrNext_lt d b), ptrNext_eq hb]
  generalize 2 ^ (d + 1) = m at *
  split_ifs <;> omega

/-- Two pointers with no difference are equal. -/
theorem ptrSub_self (d a : Nat) : ptrSub d a a = 0 := by simp [ptrSub]

/-! ## The Gray code -/

/-- Undoing `d + 1` shifts of the Gray code leaves the bits above them twice. -/
theorem grayToBin_gray_eq_xor (d v : Nat) : grayToBin d (gray v) = v ^^^ (v >>> (d + 1)) := by
  induction d with
  | zero => rfl
  | succ d ih =>
    have shifted : gray v >>> (d + 1) = (v >>> (d + 1)) ^^^ (v >>> (d + 2)) := by
      rw [gray, Nat.shiftRight_xor_distrib, ← Nat.shiftRight_add, Nat.add_comm 1 (d + 1)]
    rw [grayToBin, ih, shifted, Nat.xor_assoc, ← Nat.xor_assoc (v >>> (d + 1)), Nat.xor_self, Nat.zero_xor]

/-- A pointer crosses as its Gray code and is converted back exactly (R182). -/
theorem grayToBin_gray {d v : Nat} (h : v < 2 ^ (d + 1)) : grayToBin d (gray v) = v := by
  rw [grayToBin_gray_eq_xor, Nat.shiftRight_eq_div_pow, Nat.div_eq_of_lt h, Nat.xor_zero]

/-! ## The moves -/

section
variable {d : Nat} {e : Elastic} (h : e.InRange d)
include h

/-- A push into a buffer the writer does not see full (R184). -/
theorem Elastic.InRange.push (notFull : ptrSub d e.wptr e.rqW ≠ 2 ^ d) (x : Sample) :
    ({ e with slots := Sparse.write Slots.unlisted e.slots (e.wptr % 2 ^ d) x, wptr := ptrNext d e.wptr } :
      Elastic).InRange d := by
  have core := h.coreSees
  have sample := h.sampleSees
  have room := h.room
  have twice : 2 ^ (d + 1) = 2 * 2 ^ d := pow_succ' 2 d
  have occupancy := ptrSub_ptrNext_left h.wptr h.rptr (by omega)
  have level := ptrSub_ptrNext_left h.wptr h.rqW (by omega)
  refine
    { h with
      wptr := ptrNext_lt d e.wptr, coreSees := ?_, sampleSees := ?_, room := ?_, slots := Sparse.write_wf h.slots _ _,
      keys := fun c hc => ?_ }
  · dsimp only; omega
  · dsimp only; omega
  · dsimp only; omega
  · obtain hc | ⟨rfl, -⟩ := Sparse.mem_write hc
    · exact h.keys c hc
    · exact Nat.mod_lt _ (Nat.two_pow_pos d)

/-- The write pointer crosses into the core domain (R185). -/
theorem Elastic.InRange.syncW2R : ({ e with wqR := grayToBin d (gray e.wptr) } : Elastic).InRange d := by
  rw [grayToBin_gray h.wptr]
  exact { h with wqR := h.wptr, coreSees := le_rfl }

/-- The read pointer crosses into the sample domain (R185). -/
theorem Elastic.InRange.syncR2W : ({ e with rqW := grayToBin d (gray e.rptr) } : Elastic).InRange d := by
  rw [grayToBin_gray h.rptr]
  exact { h with rqW := h.rptr, sampleSees := le_rfl, room := h.sampleSees.trans h.room }

/-- A pop of a sample the core sees (R187). -/
theorem Elastic.InRange.pop (seen : e.rptr ≠ e.wqR) : ({ e with rptr := ptrNext d e.rptr } : Elastic).InRange d := by
  have core := h.coreSees
  have sample := h.sampleSees
  have level := ptrSub_ptrNext_right h.wqR h.rptr seen.symm
  have stored : e.wptr ≠ e.rptr := by
    intro same
    rw [same, ptrSub_self] at core
    omega
  have occupancy := ptrSub_ptrNext_right h.wptr h.rptr stored
  refine { h with rptr := ptrNext_lt d e.rptr, coreSees := ?_, sampleSees := ?_ } <;> dsimp only <;> omega

/-- Discarding every sample the core sees (45_control_commands.md R240, R244). -/
theorem Elastic.InRange.flushed : e.flushed.InRange d := by
  have fewer : ptrSub d e.wptr e.wqR ≤ ptrSub d e.wptr e.rptr := by
    have core := h.coreSees
    have bounds := And.intro h.wptr (And.intro h.rptr h.wqR)
    rw [ptrSub_eq h.wqR h.rptr, ptrSub_eq h.wptr h.rptr] at core
    rw [ptrSub_eq h.wptr h.rptr, ptrSub_eq h.wptr h.wqR]
    generalize 2 ^ (d + 1) = m at *
    split_ifs at core ⊢ <;> omega
  exact
    { h with
      rptr := h.wqR, coreSees := (ptrSub_self d e.wqR).le.trans (Nat.zero_le _),
      sampleSees := fewer.trans h.sampleSees }

end

/-- A buffer whose four pointers are 0 is empty. -/
theorem Elastic.inRange_empty {d : Nat} {slots : Slots} (wf : Sparse.wf Slots.unlisted slots)
    (keys : ∀ c ∈ slots, c.1 < 2 ^ d) :
    ({ slots := slots, wptr := 0, rptr := 0, wqR := 0, rqW := 0 } : Elastic).InRange d :=
  have pos := Nat.two_pow_pos (d + 1)
  { wptr := pos, rptr := pos, wqR := pos, rqW := pos, coreSees := le_rfl, sampleSees := le_rfl
    room := (ptrSub_self d 0).le.trans (Nat.zero_le _), slots := wf, keys := keys }

end Sys2Proof.Machine
end

section
/-! SUPPORT. The decoder and the packet storage keep their part of the invariant, `State.PacketInv`: every bit, every
block decision and every delivery (42_packet_codec.md R161 to R170, 43_capture_pipeline.md R198, R199). -/

namespace Sys2Proof.Machine

/-! ## Storage -/

/-- What is listed after a list of bytes is stored was listed before or is one of them. -/
theorem Memory.mem_writeAll {m : Memory} {a : Nat} {vs : List Byte} {c : Host.Cell} (h : c ∈ m.writeAll a vs) :
    c ∈ m ∨ a ≤ c.1 ∧ c.1 < a + vs.length := by
  induction vs generalizing m a with
  | nil => exact .inl h
  | cons v vs ih =>
    rw [List.length_cons]
    obtain h | h := ih h
    · obtain h | ⟨rfl, -⟩ := Sparse.mem_write h
      · exact .inl h
      · exact .inr ⟨le_rfl, by dsimp only; omega⟩
    · exact .inr (by omega)

/-- A byte of `TX_BUF` that is listed after a host write was listed before or lies below `P_MAX_PAYLOAD`. -/
theorem mem_txBufWrite {maxPayload j n : Nat} {m : Memory} {data : Word} {c : Host.Cell}
    (h : c ∈ txBufWrite maxPayload m j data n) :
    c ∈ m ∨ txBufBase ≤ c.1 ∧ c.1 < txBufBase + maxPayload := by
  induction n generalizing m j data with
  | zero => exact .inl h
  | succ n ih =>
    simp only [txBufWrite] at h
    obtain h | h := ih h
    · split at h
      · obtain h | ⟨rfl, -⟩ := Sparse.mem_write h
        · exact .inl h
        · exact .inr (by dsimp only; omega)
      · exact .inl h
    · exact .inr h

/-- Storing a payload in `RX_BUF` keeps the memory part of the invariant. -/
theorem State.MemInv.writeRxBuf {s : State} (h : s.MemInv) {vs : List Byte} (hl : vs.length ≤ s.params.maxPayload) :
    (s.mem.writeAll rxBufBase vs).wf ∧ ∀ c ∈ s.mem.writeAll rxBufBase vs, ramOffset s.params c.1 := by
  obtain ⟨wf, ram⟩ := h
  refine ⟨Memory.writeAll_wf wf _ _, fun c hc => ?_⟩
  obtain hc | hc := Memory.mem_writeAll hc
  · exact ram c hc
  · exact .inr (by omega)

/-- A host write to `TX_BUF` keeps the memory part of the invariant. -/
theorem State.MemInv.writeTxBuf {s : State} (h : s.MemInv) (j : Nat) (data : Word) (n : Nat) :
    (txBufWrite s.params.maxPayload s.mem j data n).wf ∧
      ∀ c ∈ txBufWrite s.params.maxPayload s.mem j data n, ramOffset s.params c.1 := by
  obtain ⟨wf, ram⟩ := h
  refine ⟨txBufWrite_wf wf _ _ _ _, fun c hc => ?_⟩
  obtain hc | hc := mem_txBufWrite hc
  · exact ram c hc
  · exact .inl hc

/-! ## Clears and deliveries -/

section
variable {s : State} (h : s.PacketInv)
include h

theorem State.PacketInv.decoderClear : (decoderClear s).PacketInv :=
  { h with dec := Decoder.inRange_cleared s.dec.failReason _ }

theorem State.PacketInv.decoderFail (r : FailReason) : (decoderFail r s).PacketInv :=
  { h with dec := Decoder.inRange_cleared r _ }

theorem State.PacketInv.deliver : (deliver s).PacketInv := by
  have payload : (s.dec.pay.take s.dec.plen).length ≤ s.params.maxPayload :=
    (List.length_take_le _ _).trans h.dec.plen
  refine ⟨h.legal, h.mem.writeRxBuf payload, ?_, Decoder.inRange_cleared s.dec.failReason _⟩
  exact (Nat.mod_le _ _).trans h.dec.plen

/-! ## Bits -/

theorem State.PacketInv.seekStartBit (hs : s.dec.rxState = .seekStart) (v : Bool) :
    (seekStartBit v s).PacketInv := by
  have fields := h.dec.fields
  rw [hs] at fields
  obtain ⟨acc, nbits, plen, pay⟩ := fields
  unfold Machine.seekStartBit
  dsimp only
  split
  · exact
      { h with
        dec :=
          { wcount := Nat.min_le_right _ 8, plen := h.dec.plen
            fields := ⟨⟨Nat.zero_lt_succ 7, Nat.one_pos⟩, plen, pay⟩ } }
  · exact { h with dec := { wcount := Nat.min_le_right _ 8, plen := h.dec.plen, fields := h.dec.fields } }

end

/-- One more bit in the field register, unless it completes the field. -/
theorem shiftBit_shifting {width : Nat} {s : State} (h : s.dec.Shifting width) (v : Bool)
    (more : (shiftBit v s).dec.nbits ≠ width) : (shiftBit v s).dec.Shifting width := by
  obtain ⟨hn, hacc⟩ := h
  refine ⟨lt_of_le_of_ne hn more, ?_⟩
  have bit : (BitVec.setWidth 16 (BitVec.ofBool v)).toNat < 2 ^ (s.dec.nbits + 1) := by
    have one_lt : 1 < 2 ^ (s.dec.nbits + 1) := Nat.one_lt_two_pow (Nat.succ_ne_zero _)
    cases v
    · exact Nat.zero_lt_one.trans one_lt
    · exact one_lt
  have shifted : (s.dec.acc <<< 1).toNat < 2 ^ (s.dec.nbits + 1) := by
    rw [BitVec.toNat_shiftLeft, Nat.shiftLeft_eq]
    have := Nat.mod_le (s.dec.acc.toNat * 2 ^ 1) (2 ^ 16)
    omega
  simpa [shiftBit] using Nat.or_lt_two_pow shifted bit

/-- What a complete field can assume of the decoder: the shift changes the field register alone. -/
structure FieldComplete (s : State) : Prop where
  legal : s.params.Legal
  mem : s.MemInv
  rxLen : s.rxLen.toNat ≤ s.params.maxPayload
  wcount : s.dec.wcount ≤ 8
  plen : s.dec.plen ≤ s.params.maxPayload

theorem State.PacketInv.shifted {s : State} (h : s.PacketInv) (v : Bool) : FieldComplete (shiftBit v s) :=
  ⟨h.legal, h.mem, h.rxLen, h.dec.wcount, h.dec.plen⟩

section
variable {s : State} (h : FieldComplete s)
include h

/-- The part of the invariant is complete again once the fields of the decoder are. -/
theorem FieldComplete.packetInv {state : RxState} (hs : s.dec.rxState = state) (fields : s.dec.FieldsIn state) :
    s.PacketInv :=
  { h with dec := ⟨h.wcount, h.plen, hs ▸ fields⟩ }

theorem FieldComplete.fail (r : FailReason) : (decoderFail r s).PacketInv :=
  { h with dec := Decoder.inRange_cleared r _ }

theorem FieldComplete.lengthDone : (lengthDone s).1.PacketInv := by
  unfold Machine.lengthDone
  split
  · exact h.fail .badLength
  next legal =>
    obtain ⟨nonzero, small⟩ := not_or.1 legal
    have pos : 0 < s.dec.acc.toNat := Nat.pos_of_ne_zero fun z => nonzero (BitVec.eq_of_toNat_eq z)
    exact
      { h with
        dec := ⟨h.wcount, not_lt.1 small, ⟨Nat.zero_lt_succ 7, Nat.one_pos⟩, pos⟩ }

theorem FieldComplete.payloadByteDone (hs : s.dec.rxState = .readPayload) (hp : s.dec.pay.length < s.dec.plen) :
    (payloadByteDone s).1.PacketInv := by
  have length : (s.dec.pay ++ [s.dec.acc.setWidth 8]).length = s.dec.pay.length + 1 := List.length_append
  refine { h with dec := ⟨h.wcount, h.plen, ?_⟩ }
  dsimp only [Machine.payloadByteDone]
  split
  next last => exact ⟨⟨Nat.zero_lt_succ 15, Nat.one_pos⟩, (Nat.zero_le _).trans_lt hp, last⟩
  next more =>
    rw [hs]
    exact ⟨⟨Nat.zero_lt_succ 7, Nat.one_pos⟩, lt_of_le_of_ne (length ▸ hp) more⟩

theorem FieldComplete.crcDone (hp : s.dec.PayloadComplete) : (crcDone s).1.PacketInv := by
  unfold Machine.crcDone
  split
  · exact h.fail .badCrc
  · exact { h with dec := ⟨h.wcount, h.plen, ⟨Nat.zero_lt_succ 7, Nat.one_pos⟩, hp⟩ }

theorem FieldComplete.packetDone (hn : s.dec.nbits = 8) (hp : s.dec.PayloadComplete) : (packetDone s).PacketInv := by
  have held : State.PacketInv { s with dec := { s.dec with rxState := .doneHold } } :=
    { h with dec := ⟨h.wcount, h.plen, hn, hp⟩ }
  unfold Machine.packetDone
  split
  · exact held
  · exact held.deliver

theorem FieldComplete.endDone (hn : s.dec.nbits = 8) (hp : s.dec.PayloadComplete) : (endDone s).1.PacketInv := by
  unfold Machine.endDone
  split
  · exact h.fail .badEnd
  · exact h.packetDone hn hp

end

/-- A decoder that is not holding takes any bit. -/
theorem State.PacketInv.decoderBit {s : State} (h : s.PacketInv) (hs : s.dec.rxState ≠ .doneHold) (v : Bool) :
    (decoderBit v s).1.PacketInv := by
  have fields := h.dec.fields
  have shifted := h.shifted v
  unfold Machine.decoderBit
  cases e : s.dec.rxState <;> rw [e] at fields <;> dsimp only
  case seekStart => exact h.seekStartBit e v
  case readLen =>
    obtain ⟨field, plen, pay⟩ := fields
    split
    next => exact shifted.lengthDone
    next more => exact shifted.packetInv e ⟨shiftBit_shifting field v more, plen, pay⟩
  case readPayload =>
    obtain ⟨field, pay⟩ := fields
    split
    next => exact shifted.payloadByteDone e pay
    next more => exact shifted.packetInv e ⟨shiftBit_shifting field v more, pay⟩
  case readCrc =>
    obtain ⟨field, pay⟩ := fields
    split
    next => exact shifted.crcDone pay
    next more => exact shifted.packetInv e ⟨shiftBit_shifting field v more, pay⟩
  case seekEnd =>
    obtain ⟨field, pay⟩ := fields
    split
    next full => exact shifted.endDone full pay
    next more => exact shifted.packetInv e ⟨shiftBit_shifting field v more, pay⟩
  case doneHold => exact absurd e hs

/-- A bit after which more bits are fed does not leave the decoder holding: `PacketDone` stops the symbol (R163). -/
theorem decoderBit_more {s t : State} {v : Bool} (h : decoderBit v s = (t, .more)) (hs : s.dec.rxState ≠ .doneHold) :
    t.dec.rxState ≠ .doneHold := by
  unfold decoderBit at h
  cases e : s.dec.rxState <;> rw [e] at h hs <;> dsimp only at h
  case seekStart =>
    cases h
    unfold seekStartBit
    dsimp only
    split
    · exact RxState.noConfusion
    · exact e ▸ hs
  case readLen =>
    split at h
    · unfold lengthDone at h
      split at h <;> cases h
      exact RxState.noConfusion
    · cases h; exact e ▸ hs
  case readPayload =>
    split at h
    · cases h
      dsimp only
      split
      · exact RxState.noConfusion
      · exact e ▸ hs
    · cases h; exact e ▸ hs
  case readCrc =>
    split at h
    · unfold crcDone at h
      split at h <;> cases h
      exact RxState.noConfusion
    · cases h; exact e ▸ hs
  case seekEnd =>
    split at h
    · unfold endDone at h
      split at h <;> cases h
    · cases h; exact e ▸ hs
  case doneHold => exact absurd rfl hs

/-! ## Symbols and block decisions -/

/-- The bits of a symbol, fed until one of them stops. -/
theorem State.PacketInv.feedBits {s : State} (h : s.PacketInv) (hs : s.dec.rxState ≠ .doneHold) (vs : List Bool) :
    (feedBits vs s).PacketInv := by
  induction vs generalizing s with
  | nil => exact h
  | cons v vs ih =>
    have first := h.decoderBit hs v
    unfold Machine.feedBits
    split
    next t e => exact ih (by rwa [e] at first) (decoderBit_more e hs)
    next t e => rwa [e] at first

/-- A block decision, once it is made. -/
theorem State.PacketInv.decoderFeed {s : State} (h : s.PacketInv) (kind : DetKind) (k1 : Nat) :
    (decoderFeed kind k1 s).PacketInv := by
  unfold Machine.decoderFeed
  split
  · exact h
  split
  · exact h
  next notHeld => exact h.feedBits notHeld _
  · exact h
  · exact h.decoderFail .lostSymbol

end Sys2Proof.Machine
end

section
/-! SUPPORT. The assembler keeps its part of the invariant: one sample extends the lanes' sums within the bounds of
41_frequency_detector.md R139, and the end of a block starts from an empty bank (43_capture_pipeline.md R190). -/

namespace Sys2Proof.Machine

/-! ## One sample -/

/-- Every entry of the sine table is at most its amplitude (40_tone_synthesizer.md R111). -/
theorem lutAt_natAbs_le (i : Nat) : (lutAt i).natAbs ≤ 32767 := by
  have entries : ∀ v ∈ lut, v.natAbs ≤ 32767 := by
    simp only [lut, List.forall_mem_append]
    and_intros <;> decide
  rw [lutAt, List.getD_eq_getElem?_getD]
  cases h : lut[i % 256]? with
  | none => exact Nat.zero_le _
  | some v => exact entries v (List.mem_of_getElem? h)

theorem sample_natAbs_le (x : Sample) : x.toInt.natAbs ≤ 32768 := by
  have lo := BitVec.le_toInt x
  have hi := BitVec.toInt_lt (x := x)
  omega

/-- A correlation sum grows by at most one full-scale product (R139). -/
theorem sum_natAbs_le {sum : Int} {cnt : Nat} (h : sum.natAbs ≤ laneBound cnt) (x : Sample) (i : Nat) :
    (sum + x.toInt * lutAt i).natAbs ≤ laneBound (cnt + 1) := by
  have product : (x.toInt * lutAt i).natAbs ≤ 32768 * 32767 := by
    rw [Int.natAbs_mul]
    exact Nat.mul_le_mul (sample_natAbs_le x) (lutAt_natAbs_le i)
  have triangle := Int.natAbs_add_le sum (x.toInt * lutAt i)
  unfold laneBound at h ⊢
  omega

/-- The reference phase after one more sample (R132). -/
theorem phaseStep_exact (fs freq cnt : Nat) :
    phaseStep fs (256 * freq * cnt % (256 * fs)) freq = 256 * freq * (cnt + 1) % (256 * fs) := by
  rw [phaseStep, Nat.mod_add_mod, Nat.mul_succ]

/-- A lane in use after one more sample. -/
theorem Lane.inRange_update {p : Plan} {k cnt : Nat} {l : Lane} (h : l.inRange p k cnt) (x : Sample) :
    (l.update p k x).inRange p k (cnt + 1) := by
  obtain ⟨phase, inPhase, quad⟩ := h
  refine ⟨?_, sum_natAbs_le inPhase x _, sum_natAbs_le quad x _⟩
  rw [Lane.update, phase, phaseStep_exact]

theorem samplePower_le (x : Sample) : samplePower x ≤ 32768 ^ 2 := by
  have square : samplePower x = x.toInt.natAbs * x.toInt.natAbs := by
    rw [samplePower, ← Int.natAbs_mul_self, Int.toNat_natCast]
  rw [square, sq]
  exact Nat.mul_le_mul (sample_natAbs_le x) (sample_natAbs_le x)

/-- The bank after one more sample (R131). -/
theorem Assembler.SumsInRange.laneUpdate {p : Plan} {a : Assembler} (h : a.SumsInRange p) (x : Sample) :
    ({ a.laneUpdate p x with cnt := a.cnt + 1 } : Assembler).SumsInRange p := by
  obtain ⟨power, lanes⟩ := h
  refine ⟨?_, fun k => ?_⟩
  · have := samplePower_le x
    simp only [Assembler.laneUpdate]
    omega
  · have lane := lanes k
    simp only [Assembler.laneUpdate, Fin.getElem_fin, Vector.getElem_mapIdx] at lane ⊢
    split_ifs at lane ⊢
    · exact Lane.inRange_update lane x
    · exact lane

/-! ## Assembling -/

/-- The end of a block leaves an empty bank. -/
theorem blockEnd_asm (s : State) : (blockEnd s).asm = s.asm.cleared := (decoderFeed_frame _ _ _).asm_eq

theorem State.PacketInv.blockEnd {s : State} (h : s.PacketInv) : (blockEnd s).PacketInv := by
  unfold Machine.blockEnd
  refine State.PacketInv.decoderFeed ?_ _ _
  exact ⟨h.legal, h.mem, h.rxLen, h.dec⟩

theorem State.PacketInv.assemble {s : State} (h : s.PacketInv) (x : Sample) : (assemble x s).PacketInv := by
  obtain ⟨-, e⟩ | ⟨-, -, e⟩ | ⟨-, -, e⟩ := assemble_cases x s <;> rw [e]
  · exact ⟨h.legal, h.mem, h.rxLen, h.dec⟩
  · exact ⟨h.legal, h.mem, h.rxLen, h.dec⟩
  · refine State.PacketInv.blockEnd ?_
    exact ⟨h.legal, h.mem, h.rxLen, h.dec⟩

/-- The bank after `Assemble`: the sums stay in range and a complete block is not left in it. -/
theorem assemble_asm_inRange {s : State} (h : s.Ranges) (x : Sample) :
    (assemble x s).asm.cnt < s.active.n ∧ (assemble x s).asm.SumsInRange s.active := by
  obtain ⟨-, e⟩ | ⟨-, more, e⟩ | ⟨-, -, e⟩ := assemble_cases x s <;> rw [e]
  · exact ⟨h.cnt, h.sums⟩
  · exact ⟨lt_of_le_of_ne h.cnt more, h.sums.laneUpdate x⟩
  · rw [blockEnd_asm]
    exact ⟨h.n_pos, Assembler.sumsInRange_cleared _ _⟩

/-- A step in the assembler's frame keeps every range once it keeps the packet's and the sums'. -/
theorem AssembleFrame.ranges {s t : State} (f : AssembleFrame s t) (h : s.Ranges) (packet : t.PacketInv)
    (cnt : t.asm.cnt < s.active.n) (sums : t.asm.SumsInRange s.active) : t.Ranges where
  toPacketInv := packet
  cfg := by rw [State.CfgInv, f.active_eq]; exact h.cfg
  err := by rw [State.ErrInv, f.err_eq, f.errCmd_eq]; exact h.err
  tx := by rw [State.TxInv, f.tx_eq, f.active_eq]; exact h.tx
  cnt := f.active_eq ▸ cnt
  sums := f.active_eq ▸ sums
  fifo := by rw [f.fifo_eq, f.params_eq]; exact h.fifo

/-- A receiver that captures assembles any sample (R190). -/
theorem State.Invariant.assemble {s : State} (h : s.Invariant) (capturing : s.capturing = true) (x : Sample) :
    (assemble x s).Invariant := by
  have frame := assemble_frame x s
  obtain ⟨cnt, sums⟩ := assemble_asm_inRange h.toRanges x
  refine ⟨frame.ranges h.toRanges (h.toPacketInv.assemble x) cnt sums, fun closed => ?_⟩
  rw [frame.capturing_eq, capturing] at closed
  cases closed

/-! ## Emptying the receiver -/

section
variable {s : State} (h : s.Ranges)
include h

theorem State.Ranges.assemblerClear : (assemblerClear s).Ranges :=
  { h with cnt := h.n_pos, sums := Assembler.sumsInRange_cleared _ _ }

theorem State.Ranges.decoderClear : (decoderClear s).Ranges := { h with toPacketInv := h.toPacketInv.decoderClear }

theorem State.Ranges.decoderFail (r : FailReason) : (decoderFail r s).Ranges :=
  { h with toPacketInv := h.toPacketInv.decoderFail r }

theorem State.Ranges.decoderClearUnlessHeld : (decoderClearUnlessHeld s).Ranges := by
  obtain ⟨-, e⟩ | ⟨-, e⟩ := decoderClearUnlessHeld_cases s <;> rw [e]
  · exact h
  · exact h.decoderClear

/-- Clearing the assembler and the decoder unless it holds a packet, as CONFIGURE, RX_START and RX_STOP do. -/
theorem State.Ranges.clears :
    (Machine.decoderClearUnlessHeld (Machine.assemblerClear s)).Ranges ∧
      (Machine.decoderClearUnlessHeld (Machine.assemblerClear s)).Quiet := by
  refine ⟨h.assemblerClear.decoderClearUnlessHeld, ?_⟩
  obtain ⟨held, e⟩ | ⟨-, e⟩ := decoderClearUnlessHeld_cases (Machine.assemblerClear s) <;> rw [e]
  · exact ⟨rfl, .inl held⟩
  · exact ⟨rfl, Decoder.quiet_cleared _⟩

/-- Entering the half-duplex pause (44_send_path.md R213). -/
theorem State.Ranges.pauseEnter : (pauseEnter s).Ranges ∧ (pauseEnter s).Quiet := by
  obtain ⟨held, e⟩ | ⟨-, e⟩ | ⟨-, -, e⟩ := pauseEnter_cases s <;> rw [e]
  · exact ⟨h.assemblerClear, rfl, .inl held⟩
  · exact ⟨h.assemblerClear.decoderClear, rfl, Decoder.quiet_cleared _⟩
  · exact ⟨h.assemblerClear.decoderFail _, rfl, Decoder.quiet_cleared _⟩

end

end Sys2Proof.Machine
end

section
/-! SUPPORT. The send path keeps the invariant: the symbols of a frame name tones the configuration has, accepting a
transmission pauses a half-duplex receiver, and every transmit step leaves the engine in its ranges (10_state.md R53,
44_send_path.md R211 to R216, 40_tone_synthesizer.md R121). -/

namespace Sys2Proof.Machine

/-! ## The symbols of a frame -/

@[simp] theorem length_bitsMsb (n v : Nat) : (bitsMsb n v).length = n := by
  induction n with
  | zero => rfl
  | succ n ih => rw [bitsMsb, List.length_cons, ih]

@[simp] theorem length_bytesBits (bs : List Byte) : (bytesBits bs).length = 8 * bs.length := by
  simp [bytesBits, List.length_flatMap, Nat.mul_comm]

/-- `START`, the length, the payload, the two bytes of the integrity field and `END` (42_packet_codec.md R153). -/
theorem length_frameBits (a : Plan) (p : List Byte) : (frameBits a p).length = 8 * (p.length + 5) := by
  simp [frameBits, frameBytes]

/-- A group of bits is a number of that many bits. -/
theorem bitsValue_lt (bs : List Bool) : bitsValue bs < 2 ^ bs.length := by
  induction bs using List.reverseRecOn with
  | nil => exact Nat.one_pos
  | append_singleton bs v ih =>
    rw [bitsValue, List.foldl_append, ← bitsValue, List.length_append, List.length_singleton, pow_succ]
    have := v.toNat_lt
    simp only [List.foldl_cons, List.foldl_nil]
    omega

@[simp] theorem length_groupBits (b count : Nat) (bs : List Bool) : (groupBits b count bs).length = count := by
  induction count generalizing bs with
  | zero => rfl
  | succ count ih => rw [groupBits, List.length_cons, ih]

theorem lt_of_mem_groupBits {b count k : Nat} {bs : List Bool} (h : k ∈ groupBits b count bs) : k < 2 ^ b := by
  induction count generalizing bs with
  | zero => cases h
  | succ count ih =>
    obtain rfl | h := List.mem_cons.1 h
    · exact (bitsValue_lt _).trans_le (Nat.pow_le_pow_right Nat.two_pos (List.length_take_le b bs))
    · exact ih h

/-- Framing is supported for 1, 2 or 4 bits per symbol, with a tone for each value (30_encoding.md R102). -/
theorem Plan.bps_eq_some {p : Plan} {b : Nat} (h : p.bps = some b) : 1 ≤ b ∧ b ≤ 4 ∧ p.m = 2 ^ b := by
  unfold Plan.bps at h
  split at h
  next m => cases h; exact ⟨le_rfl, by decide, m⟩
  split at h
  next m => cases h; exact ⟨by decide, by decide, m⟩
  split at h
  next m => cases h; exact ⟨by decide, by decide, m⟩
  next => cases h

/-! ## Accepting a transmission -/

/-- The blocks a transmission can consist of (10_state.md R53). -/
structure LegalItems (m : Nat) (items : List TxItem) : Prop where
  nonempty : 0 < items.length
  length : items.length ≤ 2080
  legal : ∀ i ∈ items, i.legal m = true

theorem legalItems_singleton {m : Nat} {i : TxItem} (h : i.legal m = true) : LegalItems m [i] :=
  ⟨Nat.one_pos, (by decide : 1 ≤ 2080), List.forall_mem_singleton.2 h⟩

/-- The blocks of a frame: at most 255 bytes of payload, one bit per symbol (44_send_path.md R211). -/
theorem legalItems_frame {a : Plan} {b : Nat} (hb : a.bps = some b) {p : List Byte} (hp : p.length ≤ 255) :
    LegalItems a.m ((frameSymbols a b p).map .tone) := by
  obtain ⟨pos, le, m⟩ := Plan.bps_eq_some hb
  have length : ((frameSymbols a b p).map TxItem.tone).length = 8 * (p.length + 5) / b := by
    rw [List.length_map, frameSymbols, length_groupBits, length_frameBits]
  refine ⟨?_, ?_, ?_⟩
  · rw [length]
    exact Nat.div_pos (by omega) pos
  · rw [length]
    exact (Nat.div_le_self _ _).trans (by omega)
  · intro i hi
    obtain ⟨k, hk, rfl⟩ := List.mem_map.1 hi
    exact decide_eq_true (m ▸ lt_of_mem_groupBits hk)

/-- An idle engine accepts a transmission; a receiver that runs is paused in half duplex (R212, R213). -/
theorem State.Invariant.txAccept {s : State} (h : s.Invariant) {items : List TxItem}
    (hi : LegalItems s.active.m items) : (txAccept items s).Invariant := by
  obtain ⟨phase, -⟩ := h.tx
  have accepted : ∀ half,
      State.Ranges { s with tx := { s.tx with items, blockIdx := 0, sampleIdx := 0, busy := true, half } } :=
    fun half => { h.toRanges with tx := ⟨phase, hi.length, hi.legal, fun _ => ⟨hi.nonempty, h.n_pos⟩, nofun⟩ }
  unfold Machine.txAccept
  dsimp only
  split
  · obtain ⟨ranges, quiet⟩ := (accepted (!s.duplex && !s.loopback)).pauseEnter
    exact ⟨ranges, fun _ => quiet⟩
  next unpaused =>
    refine ⟨accepted _, fun closed => h.quiet ?_⟩
    rw [capturing_eq_false_iff] at closed ⊢
    obtain stopped | ⟨-, half⟩ := closed
    · exact .inl stopped
    · exact .inl (by simpa [show (!s.duplex && !s.loopback) = true from half] using unpaused)

/-! ## The transmit step -/

/-- The phase the next sample leaves is below the modulus (40_tone_synthesizer.md R112, R116). -/
theorem txPhaseNext_lt {s : State} (h : s.Invariant) : txPhaseNext s < 256 * s.active.fs := by
  obtain ⟨phase, -⟩ := h.tx
  have pos : 0 < 256 * s.active.fs := Nat.mul_pos (by decide) h.fs_pos
  unfold txPhaseNext
  split
  · exact Nat.mod_lt _ pos
  · unfold txPhase
    split
    · exact pos
    · exact phase

/-- An engine that has stopped keeps the invariant: with it the pause ends, if there was one. -/
theorem State.Invariant.txIdle {s : State} (h : s.Invariant) : State.Invariant { s with tx := s.tx.idle } := by
  obtain ⟨phase, -⟩ := h.tx
  have stopped : State.Ranges { s with tx := s.tx.idle } :=
    { h.toRanges with tx := ⟨phase, Nat.zero_le _, nofun, nofun, fun _ => rfl⟩ }
  refine ⟨stopped, fun closed => h.quiet ?_⟩
  rw [capturing_eq_false_iff] at closed ⊢
  obtain stopped | ⟨busy, -⟩ := closed
  · exact .inl stopped
  · cases busy

/-- The end of a transmit step (40_tone_synthesizer.md R121). -/
theorem State.Invariant.txAdvance {s : State} (h : s.Invariant) (busy : s.tx.busy = true) :
    (txAdvance s).Invariant := by
  obtain ⟨phase, length, legal, running, -⟩ := h.tx
  obtain ⟨block, sample⟩ := running busy
  have moved : ∀ i j, i < s.tx.items.length → j < s.active.n →
      State.Invariant { s with tx := { s.tx with sampleIdx := j, blockIdx := i } } :=
    fun i j hi hj =>
      { h with tx := ⟨phase, length, legal, fun _ => ⟨hi, hj⟩, fun idle => by simp [busy] at idle⟩ }
  obtain ⟨more, e⟩ | ⟨-, more, e⟩ | ⟨-, -, e⟩ := txAdvance_cases s <;> rw [e]
  · exact moved _ _ block (lt_of_le_of_ne sample more)
  · exact moved _ _ (lt_of_le_of_ne block more) h.n_pos
  · exact { h.txIdle with }

theorem State.Invariant.loopbackIn {s : State} (h : s.Invariant) (x : Sample) : (loopbackIn x s).Invariant := by
  unfold Machine.loopbackIn
  split
  next capturing => exact h.assemble capturing x
  next => exact h

/-- A transmit step of an engine that is busy (R121, R216). -/
theorem State.Invariant.txStep {s : State} (h : s.Invariant) (busy : s.tx.busy = true) : (txStep s).Invariant := by
  obtain ⟨-, length, legal, running, -⟩ := h.tx
  have sampled : State.Invariant { s with tx := { s.tx with phase := txPhaseNext s } } :=
    { h with tx := ⟨txPhaseNext_lt h, length, legal, running, fun idle => by simp [busy] at idle⟩ }
  unfold Machine.txStep
  dsimp only
  split
  · refine (sampled.loopbackIn _).txAdvance ?_
    rw [(loopbackIn_frame _ _).tx_eq]
    exact busy
  · refine State.Invariant.txAdvance ?_ busy
    exact { sampled with }

end Sys2Proof.Machine
end

section
/-! SUPPORT. The commands, the resets and the register writes keep the invariant (45_control_commands.md R230 to R245,
20_memory.md R80). -/

namespace Sys2Proof.Machine

/-! ## Refusals and resets -/

/-- `ERR` after a refusal: the opcode, the reserved bits and the code (10_state.md R30). -/
theorem errWord_extract (code : ErrCode) (detail : BitVec 8) (w : Word) :
    (errWord code detail w).extractLsb' 24 8 = w.extractLsb' 24 8 ∧
      (errWord code detail w).extractLsb' 16 8 = 0#8 ∧ (errWord code detail w).extractLsb' 0 8 = code.code := by
  rw [errWord_fields]
  refine ⟨?_, ?_, ?_⟩ <;> ext i hi <;>
    simp only [BitVec.getElem_extractLsb', BitVec.getLsbD_append, BitVec.getLsbD_extractLsb', BitVec.getLsbD_zero,
      BitVec.getElem_zero]
  · simp [show ¬ 24 + i < 8 by omega, show ¬ 24 + i - 8 < 8 by omega, show ¬ 24 + i - 8 - 8 < 8 by omega, hi,
      show 24 + i - 8 - 8 - 8 = i by omega]
  · simp [show ¬ 16 + i < 8 by omega, show ¬ 16 + i - 8 < 8 by omega, show 16 + i - 8 - 8 < 8 by omega]
  · simp [hi]

/-- Every code of 60_exceptions.md R260 but the reserved one is at most 7. -/
theorem ErrCode.code_le {code : ErrCode} (h : code ≠ .insufficientBuffer) : code.code.toNat ≤ 7 := by
  cases code with
  | insufficientBuffer => exact absurd rfl h
  | _ => decide

/-- A refusal with a code that is raised at all keeps the invariant. -/
theorem State.Invariant.cmdRefuse {s : State} (h : s.Invariant) {code : ErrCode}
    (detail : BitVec 8) (w : Word) (raised : code ≠ .insufficientBuffer := by decide) :
    (cmdRefuse code detail w s).Invariant := by
  obtain ⟨opcode, reserved, number⟩ := errWord_extract code detail w
  exact { h with err := ⟨opcode, reserved, number ▸ ErrCode.code_le raised⟩ }

/-- Every register and hidden element is in its range at power-on, with any RAM contents that are (10_state.md R59). -/
theorem powerOn_invariant {params : Params} {mem : Memory} {slots : Slots} (legal : params.Legal)
    (memInv : mem.wf ∧ ∀ c ∈ mem, ramOffset params c.1) (wf : Sparse.wf Slots.unlisted slots)
    (keys : ∀ c ∈ slots, c.1 < 2 ^ params.fifoLog2) : (State.powerOn params mem slots).Invariant := by
  have cfg : Plan.reset.checks = 0#8 := by decide
  have reserved : (0#32).extractLsb' 16 8 = 0#8 := by decide
  obtain ⟨fs, n⟩ := Plan.pos_of_checks_eq_zero cfg
  exact
    { legal, mem := memInv, rxLen := Nat.zero_le _, dec := Decoder.inRange_cleared .none _, cfg
      err := ⟨rfl, reserved, Nat.zero_le _⟩
      tx := ⟨Nat.mul_pos (by decide) fs, Nat.zero_le _, nofun, nofun, fun _ => rfl⟩
      cnt := n, sums := Assembler.sumsInRange_cleared Plan.reset Assembler.reset
      fifo := Elastic.inRange_empty wf keys, quiet := fun _ => ⟨rfl, Decoder.quiet_cleared .none⟩ }

theorem State.Invariant.softReset {s : State} (h : s.Invariant) : (softReset s).Invariant :=
  { powerOn_invariant h.legal h.mem h.fifo.slots h.fifo.keys with fifo := h.fifo.flushed }

theorem State.Invariant.hardReset {s : State} (h : s.Invariant) : (hardReset s).Invariant :=
  { powerOn_invariant h.legal h.mem h.fifo.slots h.fifo.keys with }

/-! ## The commands -/

section
variable {s t : State} (h : s.Invariant)
include h

theorem State.Invariant.execTxFrame {len : Nat} (e : execTxFrame len s = .next t) : t.Invariant := by
  simp only [Machine.execTxFrame] at e
  split at e
  · cases e; exact h.cmdRefuse _ _
  split at e
  · cases e; exact h.cmdRefuse _ _
  split at e
  · cases e; exact h.cmdRefuse _ _
  next b hb =>
    split at e <;> cases e
    · exact h.cmdRefuse _ _
    next fits =>
      refine h.txAccept (legalItems_frame hb ?_)
      obtain ⟨-, le, -⟩ := h.legal
      rw [txPayload, Memory.length_readAll]
      omega

theorem State.Invariant.execTxSymbol {sym : Nat} (e : execTxSymbol sym s = .next t) : t.Invariant := by
  simp only [Machine.execTxSymbol] at e
  split at e
  · cases e; exact h.cmdRefuse _ _
  split at e
  · cases e; exact h.cmdRefuse _ _
  split at e <;> cases e
  · exact h.cmdRefuse _ _
  next below => exact h.txAccept (legalItems_singleton (decide_eq_true (not_le.1 below)))

theorem State.Invariant.execTxSilence (e : execTxSilence s = .next t) : t.Invariant := by
  simp only [Machine.execTxSilence] at e
  split at e
  · cases e; exact h.cmdRefuse _ _
  split at e <;> cases e
  · exact h.cmdRefuse _ _
  · exact h.txAccept (legalItems_singleton rfl)

theorem State.Invariant.execTxAbort (e : execTxAbort s = .next t) : t.Invariant := by
  unfold Machine.execTxAbort at e
  split at e <;> cases e
  · exact h.txIdle
  · exact h

/-- CONFIGURE replaces a legal configuration by a legal one while nothing depends on the old one: the engine is idle
with its phase at 0, and the bank is cleared (45_control_commands.md R236). -/
theorem State.Invariant.execConfigure (e : execConfigure s = .next t) : t.Invariant := by
  simp only [Machine.execConfigure] at e
  split at e
  · cases e; exact h.cmdRefuse _ _
  next idle =>
  obtain ⟨busy, -⟩ : s.tx.busy = false ∧ s.rxRun = false := by simpa using idle
  split at e <;> cases e
  · refine State.Invariant.cmdRefuse ?_ _ _
    exact { h with }
  next legal =>
    have staged : s.staging.checks = 0#8 := not_not.1 legal
    obtain ⟨fs, n⟩ := Plan.pos_of_checks_eq_zero staged
    obtain ⟨-, -, -, -, empty⟩ := h.tx
    have engine : s.tx = { TxEngine.reset with phase := s.tx.phase } := empty busy
    have replaced : State.Ranges (assemblerClear
        { s with active := s.staging, cfgValid := true, tx := { s.tx with phase := 0 } }) := by
      rw [engine]
      exact
        { h.toRanges with
          cfg := staged, tx := ⟨Nat.mul_pos (by decide) fs, Nat.zero_le _, nofun, nofun, fun _ => rfl⟩, cnt := n
          sums := Assembler.sumsInRange_cleared _ _ }
    obtain ⟨ranges, quiet⟩ := replaced.clears
    exact ⟨ranges, fun _ => quiet⟩

theorem State.Invariant.execRxStart (e : execRxStart s = .next t) : t.Invariant := by
  simp only [Machine.execRxStart] at e
  split at e
  · cases e; exact h.cmdRefuse _ _
  split at e <;> cases e
  · exact h
  · have flushed : State.Ranges { s with fifo := s.fifo.flushed } := { h.toRanges with fifo := h.fifo.flushed }
    obtain ⟨ranges, quiet⟩ := flushed.clears
    exact ⟨{ ranges with }, fun _ => quiet⟩

theorem State.Invariant.rxStop :
    State.Invariant (decoderClearUnlessHeld (assemblerClear { s with rxRun := false })) := by
  have stopped : State.Ranges { s with rxRun := false } := { h.toRanges with }
  obtain ⟨ranges, quiet⟩ := stopped.clears
  exact ⟨ranges, fun _ => quiet⟩

theorem State.Invariant.decoderClearUnlessHeld : (decoderClearUnlessHeld s).Invariant := by
  refine ⟨h.toRanges.decoderClearUnlessHeld, fun closed => ?_⟩
  obtain ⟨-, e⟩ | ⟨-, e⟩ := decoderClearUnlessHeld_cases s <;> rw [e] at closed ⊢
  · exact h.quiet closed
  · exact ⟨(h.quiet closed).1, Decoder.quiet_cleared _⟩

theorem State.Invariant.rxSlip (count : BitVec 16) :
    State.Invariant { assemblerClear s with asm := { s.asm.cleared with slipRemain := count } } := by
  have cleared := h.toRanges.assemblerClear
  exact ⟨{ cleared with }, fun closed => ⟨rfl, (h.quiet closed).2⟩⟩

/-- Every command keeps the invariant. -/
theorem State.Invariant.exec {i : Instr} (e : exec i s = .next t) : t.Invariant := by
  cases i with
  | nop => cases e; exact h
  | configure => exact h.execConfigure e
  | softReset => cases e; exact h.softReset
  | txFrame len => exact h.execTxFrame e
  | txSymbol sym => exact h.execTxSymbol e
  | txSilence => exact h.execTxSilence e
  | txAbort => exact h.execTxAbort e
  | rxStart => exact h.execRxStart e
  | rxStop => cases e; exact h.rxStop
  | rxResync => cases e; exact h.decoderClearUnlessHeld
  | rxSlip count => cases e; exact h.rxSlip _

theorem State.Invariant.cmdWrite {w : Word} (e : cmdWrite w s = .next t) : t.Invariant := by
  unfold Machine.cmdWrite at e
  split at e
  · exact h.exec e
  · cases e; exact h.cmdRefuse _ _

/-- A register write keeps the invariant: no register but `CMD` holds an element it speaks of. -/
theorem State.Invariant.regWrite {d : Word} {r : Reg} (e : regWrite d s r = .next t) : t.Invariant := by
  cases r with
  | cmd => exact h.cmdWrite e
  | _ => cases e; exact { h with }

end

end Sys2Proof.Machine
end

section
/-! SUPPORT. Every event keeps the invariant, so every step does, and it holds at power-on. -/

namespace Sys2Proof.Machine

/-! ## The host's accesses -/

theorem accessBytes_cases {size : BitVec 2} {n : Nat} (h : accessBytes size = some n) : n = 1 ∨ n = 2 ∨ n = 4 := by
  unfold accessBytes at h
  split at h
  · cases h; exact .inl rfl
  split at h
  · cases h; exact .inr (.inl rfl)
  split at h
  · cases h; exact .inr (.inr rfl)
  · cases h

/-- What a write can do, with the bytes of `TX_BUF` it stores: an aligned access does not leave the buffer
(20_memory.md R75 to R77). -/
theorem hostWrite_effect (off : BitVec 12) (size : BitVec 2) (d : Word) (s : State) :
    (∃ r, hostWrite off size d s = regWrite d (answerWrite s) r) ∨
      hostWrite off size d s = .next (writeError s) ∨ hostWrite off size d s = .next (answerWrite s) ∨
      ∃ j n, j + n ≤ 0x100 ∧
        hostWrite off size d s =
          .next (answerWrite { s with mem := txBufWrite s.params.maxPayload s.mem j d n }) := by
  unfold hostWrite
  cases hn : accessBytes size with
  | none => exact .inr (.inl rfl)
  | some n =>
    dsimp only
    split
    · exact .inr (.inl rfl)
    next aligned =>
    split
    · split
      · exact .inr (.inl rfl)
      split
      · exact .inr (.inl rfl)
      next r _ => exact .inl ⟨r, rfl⟩
    split
    · refine .inr (.inr (.inr ⟨_, n, ?_, rfl⟩))
      obtain rfl | rfl | rfl := accessBytes_cases hn <;> omega
    split
    · exact .inr (.inr (.inl rfl))
    · exact .inr (.inl rfl)

section
variable {s t : State} (h : s.Invariant)
include h

theorem State.Invariant.hostRead (off : BitVec 12) (size : BitVec 2) : (hostRead off size s).Invariant := by
  obtain e | ⟨v, e⟩ := hostRead_cases off size s <;> rw [e] <;> exact { h with }

theorem State.Invariant.hostWrite {off : BitVec 12} {size : BitVec 2} {d : Word}
    (e : hostWrite off size d s = .next t) : t.Invariant := by
  have answered : (answerWrite s).Invariant := { h with }
  obtain ⟨r, e'⟩ | e' | e' | ⟨j, n, -, e'⟩ := hostWrite_effect off size d s <;> rw [e'] at e
  · exact answered.regWrite e
  · cases e; exact { h with }
  · cases e; exact answered
  · cases e; exact { h with mem := h.mem.writeTxBuf j d n }

/-! ## The other agents -/

theorem State.Invariant.srcPush (x : Sample) : (srcPush x s).Invariant := by
  unfold Machine.srcPush
  dsimp only
  split
  · exact { h with }
  next notFull => exact { h with fifo := h.fifo.push notFull x }

/-- A pop of a sample the core sees: it is assembled where the receiver captures, else discarded (R187, R189). -/
theorem State.Invariant.rxPop (enabled : rxPopEnabled s = true) : (rxPop s).Invariant := by
  have seen : s.fifo.rptr ≠ s.fifo.wqR := of_decide_eq_true (Bool.and_eq_true_iff.1 enabled).1
  have popped : State.Invariant { s with fifo := { s.fifo with rptr := ptrNext s.params.fifoLog2 s.fifo.rptr } } :=
    { h with fifo := h.fifo.pop seen }
  unfold Machine.rxPop
  dsimp only
  split
  next takes => exact popped.assemble (Bool.and_eq_true_iff.1 takes).1 _
  next => exact popped

theorem State.Invariant.deliverHeld : (deliverHeld s).Invariant :=
  { h with
    toPacketInv := h.toPacketInv.deliver
    quiet := fun closed => ⟨(h.quiet closed).1, Decoder.quiet_cleared s.dec.failReason⟩ }

/-- Every event keeps the invariant; an agent that is not enabled changes nothing. -/
theorem State.Invariant.runEvent {e : Event} (r : runEvent e s = .next t) : t.Invariant := by
  cases e with
  | syncW2R => cases r; exact { h with fifo := h.fifo.syncW2R }
  | syncR2W => cases r; exact { h with fifo := h.fifo.syncR2W }
  | hostRead off size => cases r; exact h.hostRead off size
  | hostWrite off size d => exact h.hostWrite r
  | srcPush x => cases r; exact h.srcPush x
  | txStep =>
    cases r
    split
    next enabled => exact h.txStep (Bool.and_eq_true_iff.1 enabled).1
    next => exact h
  | rxPop =>
    cases r
    split
    next enabled => exact h.rxPop enabled
    next => exact h
  | deliverHeld =>
    cases r
    split
    · exact h.deliverHeld
    · exact h
  | rst => cases r; exact h.hardReset

/-- Taking an event from the schedule keeps the invariant. -/
theorem State.Invariant.takeEvent : (takeEvent s).Invariant := by
  unfold Machine.takeEvent
  split <;> exact { h with }

end

/-! ## The obligations -/

/-- Settles O55: the step is the run of one event, and every event keeps the invariant's parts. -/
theorem everyStepKeepsTheInvariant : Obligations.EveryStepKeepsTheInvariant := by
  unfold Obligations.EveryStepKeepsTheInvariant
  intro s t h e
  exact (invariant_iff t).1 (((invariant_iff s).2 h).takeEvent.runEvent e)

/-- Settles O54: every element is at its reset value, and the drawn RAM contents are in range by assumption. -/
theorem theInvariantHoldsAtPowerOn : Obligations.TheInvariantHoldsAtPowerOn := by
  unfold Obligations.TheInvariantHoldsAtPowerOn
  have drawn : ∀ (params : Params) (mem : Memory) (slots : Slots), params.Legal → mem.wf →
      (∀ c ∈ mem, ramOffset params c.1) → Sparse.wf Slots.unlisted slots →
      (∀ c ∈ slots, c.1 < 2 ^ params.fifoLog2) → (State.powerOn params mem slots).Inv :=
    fun _ _ _ legal memWf ram slotsWf keys =>
      (invariant_iff _).1 (powerOn_invariant legal ⟨memWf, ram⟩ slotsWf keys)
  exact ⟨drawn, drawn _ [] [] (by decide) Sparse.wf_nil nofun Sparse.wf_nil nofun⟩

end Sys2Proof.Machine
end

section
/-! SUPPORT. The two payload buffers as the host sees them: no command and no host write changes `RX_BUF`, and a read
of either buffer answers its bytes, little-endian (10_state.md R55, R56, 20_memory.md R72 to R75). -/

namespace Sys2Proof.Machine

/-! ## Writes -/

/-- A write to `TX_BUF` leaves every byte outside the accessed ones alone. -/
theorem read_txBufWrite_outside {m : Memory} (h : m.wf) {maxPayload j n a : Nat} (data : Word)
    (outside : a < txBufBase + j ∨ txBufBase + j + n ≤ a) :
    (txBufWrite maxPayload m j data n).read a = m.read a := by
  induction n generalizing m j data with
  | zero => rfl
  | succ n ih =>
    unfold txBufWrite
    dsimp only
    split
    · rw [ih (Memory.write_wf h _ _) _ (by omega), Memory.read_write_other h (by omega)]
    · exact ih h _ (by omega)

theorem decoderClearUnlessHeld_mem (s : State) : (decoderClearUnlessHeld s).mem = s.mem := by
  obtain ⟨-, e⟩ | ⟨-, e⟩ := decoderClearUnlessHeld_cases s <;> rw [e]
  rfl

theorem pauseEnter_mem (s : State) : (pauseEnter s).mem = s.mem := by
  obtain ⟨-, e⟩ | ⟨-, e⟩ | ⟨-, -, e⟩ := pauseEnter_cases s <;> rw [e] <;> rfl

theorem txAccept_mem (items : List TxItem) (s : State) : (txAccept items s).mem = s.mem := by
  unfold txAccept
  dsimp only
  split
  · exact pauseEnter_mem _
  · rfl

theorem RefusedOrAccepted.mem {w : Word} {s t : State} (h : RefusedOrAccepted w s t) : t.mem = s.mem := by
  obtain ⟨code, rfl⟩ | ⟨items, rfl⟩ := h
  · rfl
  · exact txAccept_mem items s

/-- No command changes memory (45_control_commands.md R245 for SOFT_RESET). -/
theorem exec_mem {i : Instr} {s t : State} (h : exec i s = .next t) : t.mem = s.mem := by
  cases i with
  | nop => cases h; rfl
  | configure =>
    simp only [exec, execConfigure] at h
    split at h
    · cases h; rfl
    split at h <;> cases h
    · rfl
    · exact decoderClearUnlessHeld_mem _
  | softReset => cases h; rfl
  | txFrame len => exact (execTxFrame_refusedOrAccepted h).mem
  | txSymbol sym => exact (execTxSymbol_refusedOrAccepted h).mem
  | txSilence => exact (execTxSilence_refusedOrAccepted h).mem
  | txAbort =>
    simp only [exec, execTxAbort] at h
    split at h <;> cases h <;> rfl
  | rxStart =>
    simp only [exec, execRxStart] at h
    split at h
    · cases h; rfl
    split at h <;> cases h
    · rfl
    · exact decoderClearUnlessHeld_mem _
  | rxStop => cases h; exact decoderClearUnlessHeld_mem _
  | rxResync => cases h; exact decoderClearUnlessHeld_mem s
  | rxSlip count => cases h; rfl

/-- No register write changes memory, a command included. -/
theorem regWrite_mem {d : Word} {s t : State} {r : Reg} (h : regWrite d s r = .next t) : t.mem = s.mem := by
  cases r with
  | cmd =>
    simp only [regWrite, cmdWrite] at h
    split at h
    · exact exec_mem h
    · cases h; rfl
  | _ => cases h; rfl

/-- A host write reaches no byte past `TX_BUF` (20_memory.md R89). -/
theorem hostWrite_read_above {off : BitVec 12} {size : BitVec 2} {d : Word} {s t : State} (wf : s.mem.wf)
    (h : hostWrite off size d s = .next t) {a : Nat} (above : txBufBase + 0x100 ≤ a) :
    t.mem.read a = s.mem.read a := by
  obtain ⟨r, e⟩ | e | e | ⟨j, n, inside, e⟩ := hostWrite_effect off size d s <;> rw [e] at h
  · rw [regWrite_mem h]; rfl
  · cases h; rfl
  · cases h; rfl
  · cases h
    exact read_txBufWrite_outside wf d (.inr (by omega))

/-! ## Reads -/

/-- Bit `i` of a buffer read is bit `i mod 8` of its byte `i div 8` (R72). -/
theorem getLsbD_bufWord (base j : Nat) (s : State) (n i : Nat) :
    (bufWord base j s n).getLsbD i =
      (decide (i < 32) && decide (i < 8 * n) && (bufByte base (j + i / 8) s).getLsbD (i % 8)) := by
  induction n generalizing j i with
  | zero => simp [bufWord]
  | succ n ih =>
    rw [bufWord, BitVec.getLsbD_or, BitVec.getLsbD_setWidth, BitVec.getLsbD_shiftLeft, ih]
    by_cases low : i < 8
    · simp [low, Nat.div_eq_of_lt low, Nat.mod_eq_of_lt low, show i < 8 * (n + 1) by omega]
    · have next : j + 1 + (i - 8) / 8 = j + i / 8 := by omega
      have rest : (i - 8) % 8 = i % 8 := by omega
      have inside : i - 8 < 8 * n ↔ i < 8 * (n + 1) := by omega
      have above : (bufByte base j s).getLsbD i = false := BitVec.getLsbD_of_ge _ i (not_lt.1 low)
      by_cases word : i < 32
      · simp [low, next, rest, inside, above, word, show i - 8 < 32 by omega]
      · simp [word]

theorem bufWord_toNat_lt (base j : Nat) (s : State) (n : Nat) : (bufWord base j s n).toNat < 2 ^ (8 * n) := by
  refine Nat.lt_pow_two_of_testBit _ fun i hi => ?_
  rw [← BitVec.getLsbD, getLsbD_bufWord]
  simp [not_lt.2 hi]

/-- Byte `i` of a buffer read. -/
theorem extractLsb'_bufWord (base j : Nat) (s : State) {n i : Nat} (hi : i < n) (hn : n ≤ 4) :
    (bufWord base j s n).extractLsb' (8 * i) 8 = bufByte base (j + i) s := by
  ext k hk
  have byte : (8 * i + k) / 8 = i := by omega
  have bit : (8 * i + k) % 8 = k := by omega
  rw [BitVec.getElem_extractLsb', getLsbD_bufWord, byte, bit, BitVec.getLsbD_eq_getElem hk]
  simp [show 8 * i + k < 32 by omega, show 8 * i + k < 8 * n by omega]

/-- An aligned read in a buffer answers its bytes (R74). -/
theorem hostRead_buffer {off : BitVec 12} {size : BitVec 2} {n : Nat} {s : State} (hn : accessBytes size = some n)
    (aligned : off.toNat % n = 0) (lo : 0x100 ≤ off.toNat) (hi : off.toNat < 0x300) :
    ∃ base j, hostRead off size s = answerRead (bufWord base j s n) s ∧ base + j = off.toNat ∧ j + n ≤ 0x100 ∧
      base % 0x100 = 0 := by
  unfold hostRead
  simp only [hn, aligned, not_lt.2 lo, hi]
  have ends : ∀ {m : Nat}, 0x100 ∣ m → off.toNat < m → off.toNat + n ≤ m := by
    intro m whole less
    obtain rfl | rfl | rfl := accessBytes_cases hn <;> omega
  by_cases tx : off.toNat < 0x200
  · have := ends (m := 0x200) ⟨2, rfl⟩ tx
    exact ⟨txBufBase, off.toNat - 0x100, by simp [tx], Nat.add_sub_of_le lo, by omega, rfl⟩
  · have := ends (m := 0x300) ⟨3, rfl⟩ hi
    exact ⟨rxBufBase, off.toNat - 0x200, by simp [tx], Nat.add_sub_of_le (not_lt.1 tx), by omega, rfl⟩

/-- Settles O26: a write reaches no byte above `TX_BUF`, and a read is the word of the buffer's bytes. -/
theorem hostNeverWritesRxBuf : Obligations.HostNeverWritesRxBuf := by
  unfold Obligations.HostNeverWritesRxBuf
  intro s off size n d wf
  refine ⟨fun t h j => hostWrite_read_above wf h (Nat.le_add_right 0x200 j), fun hn aligned lo hi => ?_⟩
  obtain ⟨base, j, answer, place, inside, start⟩ := hostRead_buffer (s := s) hn aligned lo hi
  refine ⟨bufWord base j s n, answer, bufWord_toNat_lt base j s n, fun i less => ?_⟩
  have fits : n ≤ 4 := by obtain rfl | rfl | rfl := accessBytes_cases hn <;> decide
  have index : (off.toNat + i) % 0x100 = j + i := by omega
  rw [extractLsb'_bufWord base j s less fits, bufByte, index, ← place, Nat.add_assoc]

end Sys2Proof.Machine
end

section
/-! SUPPORT. What the host reads from the register window, field by field, and the registers after `rst` (10_state.md
R23 to R50, 70_reset_and_hazards.md R290). -/

namespace Sys2Proof

/-! ## Words as sums of their fields -/

/-- A field placed above nothing. -/
theorem toNat_bitField {w lo n : Nat} (v : BitVec n) (fits : lo + n ≤ w) :
    (bitField w lo v).toNat = v.toNat * 2 ^ lo := by
  have bound : v.toNat * 2 ^ lo < 2 ^ w :=
    calc v.toNat * 2 ^ lo < 2 ^ n * 2 ^ lo := Nat.mul_lt_mul_of_pos_right v.isLt (Nat.two_pow_pos lo)
      _ = 2 ^ (lo + n) := by rw [Nat.pow_add, Nat.mul_comm]
      _ ≤ 2 ^ w := Nat.pow_le_pow_right Nat.two_pos fits
  have narrow : v.toNat < 2 ^ w := v.isLt.trans_le (Nat.pow_le_pow_right Nat.two_pos (by omega))
  rw [bitField, BitVec.toNat_shiftLeft, BitVec.toNat_setWidth, Nat.mod_eq_of_lt narrow, Nat.shiftLeft_eq,
    Nat.mod_eq_of_lt bound]

/-- A field placed below a word whose bits all lie above it. -/
theorem toNat_or_bitField {w lo n : Nat} (x : BitVec w) (v : BitVec n) (fits : lo + n ≤ w)
    (above : 2 ^ (lo + n) ∣ x.toNat) : (x ||| bitField w lo v).toNat = x.toNat + v.toNat * 2 ^ lo := by
  obtain ⟨q, hq⟩ := above
  have low : v.toNat * 2 ^ lo < 2 ^ (lo + n) := by
    rw [Nat.pow_add, Nat.mul_comm (2 ^ lo)]
    exact Nat.mul_lt_mul_of_pos_right v.isLt (Nat.two_pow_pos lo)
  rw [BitVec.toNat_or, toNat_bitField v fits, hq, Nat.mul_comm, ← Nat.shiftLeft_eq q,
    Nat.shiftLeft_add_eq_or_of_lt low]

/-! ## The fields of a word -/

/-- The field where it was placed. -/
theorem extractLsb'_bitField {w lo n : Nat} (v : BitVec n) (fits : lo + n ≤ w) :
    (bitField w lo v).extractLsb' lo n = v := by
  ext i hi
  simp [show lo + i < w by omega, BitVec.getLsbD_eq_getElem hi]

/-- Bits below and above a field are not its own. -/
theorem extractLsb'_bitField_disjoint {w lo n a m : Nat} (v : BitVec n) (apart : lo + n ≤ a ∨ a + m ≤ lo) :
    (bitField w lo v).extractLsb' a m = 0#m := by
  ext i hi
  obtain above | below := apart
  · simp [BitVec.getLsbD_of_ge v (a + i - lo) (by omega)]
  · simp [show ¬ lo ≤ a + i by omega]

namespace Machine

/-! ## The registers -/

/-- The reserved bits of `STATUS` (10_state.md R27). -/
theorem statusWord_reserved (s : State) :
    s.statusWord.extractLsb' 5 3 = 0#3 ∧ s.statusWord.extractLsb' 14 18 = 0#18 := by
  simp [State.statusWord, BitVec.extractLsb'_or, extractLsb'_bitField_disjoint]

/-- The fields of `RX_STATUS` (R42). -/
theorem rxStatusWord_fields (s : State) :
    s.rxStatusWord.extractLsb' 0 3 = s.dec.rxState.code ∧ s.rxStatusWord.getLsbD 3 = false ∧
      s.rxStatusWord.extractLsb' 4 3 = s.dec.failReason.code ∧ s.rxStatusWord.getLsbD 7 = false ∧
      s.rxStatusWord.extractLsb' 8 8 = s.rxLen ∧ s.rxStatusWord.extractLsb' 16 16 = 0#16 := by
  simp [State.rxStatusWord, BitVec.extractLsb'_or, extractLsb'_bitField, extractLsb'_bitField_disjoint]

/-- The fields of `DET_RESULT` (R46). -/
theorem detResultWord_fields (s : State) :
    s.detResultWord.extractLsb' 0 2 = s.det.kind.code ∧ s.detResultWord.extractLsb' 2 2 = 0#2 ∧
      s.detResultWord.extractLsb' 4 4 = s.det.symbol ∧ s.detResultWord.extractLsb' 8 24 = 0#24 := by
  simp [State.detResultWord, BitVec.extractLsb'_or, extractLsb'_bitField, extractLsb'_bitField_disjoint]

/-- The bits of `CTRL` (R26). -/
theorem ctrl_fields (s : State) :
    (regRead s .ctrl).getLsbD 0 = s.phaseCont ∧ (regRead s .ctrl).getLsbD 1 = s.duplex ∧
      (regRead s .ctrl).getLsbD 2 = s.loopback ∧ (regRead s .ctrl).extractLsb' 3 29 = 0#29 := by
  refine ⟨?_, ?_, ?_, ?_⟩
  · simp [regRead, State.phaseCont]
  · simp [regRead, State.duplex]
  · simp [regRead, State.loopback]
  · ext i hi
    simp [regRead]

/-- The two halves of an energy (R47). -/
theorem halves_toNat (e : BitVec 64) :
    (e.extractLsb' 32 32).toNat * 2 ^ 32 + (e.extractLsb' 0 32).toNat = e.toNat := by
  have := e.isLt
  simp only [BitVec.extractLsb'_toNat, Nat.shiftRight_eq_div_pow]
  omega

/-- `MARKERS` (R39). -/
theorem markers_toNat (s : State) :
    (regRead s .markers).toNat = s.staging.endMarker.toNat * 2 ^ 8 + s.staging.startMarker.toNat := by
  rw [regRead, toNat_or_bitField, toNat_bitField]
  · simp
  · decide
  · decide
  · rw [toNat_bitField _ (by decide)]; omega

/-- `PARAMS` with legal parameters (R25). -/
theorem paramsWord_toNat {s : State} (legal : s.params.Legal) :
    (regRead s .params).toNat = 16 * 2 ^ 16 + 8 * 2 ^ 12 + s.params.fifoLog2 * 2 ^ 8 + s.params.maxPayload := by
  obtain ⟨-, payload, -, log2⟩ := legal
  have depth : (BitVec.ofNat 4 s.params.fifoLog2).toNat = s.params.fifoLog2 := Nat.mod_eq_of_lt (by omega)
  have bytes : (BitVec.ofNat 8 s.params.maxPayload).toNat = s.params.maxPayload := Nat.mod_eq_of_lt (by omega)
  have upper : (bitField 32 16 (BitVec.ofNat 5 Config.maxSymbols)
      ||| bitField 32 12 (BitVec.ofNat 4 Config.lutLog2)).toNat = 16 * 2 ^ 16 + 8 * 2 ^ 12 := by decide
  rw [regRead, State.paramsWord, toNat_or_bitField, toNat_or_bitField, upper, depth, bytes, Nat.pow_zero, Nat.mul_one]
  · decide
  · rw [upper]; decide
  · decide
  · rw [toNat_or_bitField _ _ (by decide) (by rw [upper]; decide), upper, depth]
    omega

/-- `TX_STATUS` while busy (R49). -/
theorem txStatusWord_toNat {s : State} (h : s.Inv) (busy : s.tx.busy = true) :
    (regRead s .txStatus).toNat = s.tx.sampleIdx * 2 ^ 16 + (s.tx.items.length - s.tx.blockIdx) := by
  obtain ⟨-, length, -, running, -⟩ := ((invariant_iff s).2 h).tx
  obtain ⟨-, sample⟩ := running busy
  have block : s.active.n < 2 ^ 16 := s.active.samplesPerBit.isLt
  have index : (BitVec.ofNat 16 s.tx.sampleIdx).toNat = s.tx.sampleIdx := Nat.mod_eq_of_lt (by omega)
  have left : (BitVec.ofNat 16 (s.tx.items.length - s.tx.blockIdx)).toNat = s.tx.items.length - s.tx.blockIdx :=
    Nat.mod_eq_of_lt (by omega)
  have upper : (bitField 32 16 (BitVec.ofNat 16 s.tx.sampleIdx)).toNat = s.tx.sampleIdx * 2 ^ 16 := by
    rw [toNat_bitField _ (by decide), index]
  rw [regRead, State.txStatusWord, if_pos busy, toNat_or_bitField _ _ (by decide) (upper ▸ by omega), upper, left,
    Nat.pow_zero, Nat.mul_one]

/-- `FIFO_LEVEL` (R50). -/
theorem fifoLevelWord_toNat {s : State} (h : s.Inv) : (regRead s .fifoLevel).toNat = s.rlevel := by
  have inv := (invariant_iff s).2 h
  obtain ⟨-, -, -, log2⟩ := inv.legal
  have slots : 2 ^ s.params.fifoLog2 ≤ 2 ^ 12 := Nat.pow_le_pow_right Nat.two_pos log2
  have level : s.rlevel ≤ 2 ^ s.params.fifoLog2 := (inv.fifo.coreSees.trans inv.fifo.sampleSees).trans inv.fifo.room
  have stored : (BitVec.ofNat 13 s.rlevel).toNat = s.rlevel := Nat.mod_eq_of_lt (by omega)
  rw [regRead, State.fifoLevelWord, toNat_bitField _ (by decide), stored, Nat.pow_zero, Nat.mul_one]

/-- Settles O27: each register by the lemma on its word. -/
theorem statusRegistersReadTheirFields : Obligations.StatusRegistersReadTheirFields := by
  unfold Obligations.StatusRegistersReadTheirFields
  intro s
  obtain ⟨busy, run, valid, paused, hold⟩ := statusWord_live s
  obtain ⟨low, high⟩ := statusWord_reserved s
  obtain ⟨state, bit3, reason, bit7, length, rxHigh⟩ := rxStatusWord_fields s
  obtain ⟨kind, detLow, symbol, detHigh⟩ := detResultWord_fields s
  have flag := statusWord_flags s
  have word : ∀ {n : Nat} (v : BitVec n), n ≤ 32 → (v.setWidth 32).toNat = v.toNat :=
    fun _ => BitVec.toNat_setWidth_of_le
  refine
    ⟨⟨busy, run, valid, paused, hold, low, (flag 0 (by decide)).trans s.flags.bits_bit0,
        (flag 1 (by decide)).trans s.flags.bits_bit1, (flag 2 (by decide)).trans s.flags.bits_bit2,
        (flag 3 (by decide)).trans s.flags.bits_bit3, (flag 4 (by decide)).trans s.flags.bits_bit4,
        (flag 5 (by decide)).trans s.flags.bits_bit5, high⟩,
      ?rxStatus, ?detResult, halves_toNat s.det.e1, halves_toNat s.det.e2, ctrl_fields s, rfl,
      toNat_bitField s.irqEn (by decide), rfl, rfl, rfl, word s.staging.base (by decide), word s.staging.step (by decide),
      word s.staging.symbolCount (by decide), word s.staging.sampleRate (by decide),
      word s.staging.samplesPerBit (by decide), word s.staging.amplitude (by decide),
      word s.staging.tolerance (by decide), rfl, markers_toNat s, rfl, rfl, rfl, word s.asm.slipRemain (by decide),
      paramsWord_toNat, fun inv => ⟨fun on => ?txStatus, fun off => if_neg (by simp [off]), fifoLevelWord_toNat inv⟩⟩
  case rxStatus =>
    have code : ∀ {c}, s.dec.rxState = c → s.rxStatusWord.extractLsb' 0 3 = c.code := fun e => e ▸ state
    have why : ∀ {c}, s.dec.failReason = c → s.rxStatusWord.extractLsb' 4 3 = c.code := fun e => e ▸ reason
    exact ⟨code, code, code, code, code, code, bit3, why, why, why, why, why, why, bit7, length, rxHigh⟩
  case detResult =>
    have code : ∀ {c}, s.det.kind = c → s.detResultWord.extractLsb' 0 2 = c.code := fun e => e ▸ kind
    exact ⟨code, code, code, code, detLow, symbol, detHigh⟩
  case txStatus =>
    obtain ⟨-, items, -⟩ := ((invariant_iff s).2 inv).tx
    rw [txStatusWord_toNat inv on]
    omega

/-! ## Reset -/

/-- The reset column of the register table, at the model's reset state (R23). -/
theorem regRead_reset (r : Reg) : regRead State.reset r = r.resetValue := by
  cases r <;> decide

/-- Every register but `PARAMS` after `rst`: it depends on nothing that `rst` keeps. -/
theorem regRead_hardReset (s : State) {r : Reg} (h : r ≠ .params) : regRead (hardReset s) r = r.resetValue := by
  refine Eq.trans ?_ (regRead_reset r)
  cases r with
  | params => exact absurd rfl h
  | fifoLevel =>
    have level : (hardReset s).rlevel = 0 := ptrSub_self s.params.fifoLog2 0
    rw [regRead, State.fifoLevelWord, level]
    rfl
  | _ => rfl

/-- Settles O57: `rst` is the power-on state with the stored contents, the output so far and the schedule kept. -/
theorem resetGivesEveryElementItsResetValue : Obligations.ResetGivesEveryElementItsResetValue := by
  unfold Obligations.ResetGivesEveryElementItsResetValue
  intro s
  have noFlag : decide (EventFlags.clear.bits &&& 0#6 ≠ 0#6) = false := by decide
  refine ⟨hardReset s, rfl, fun r hr => ?_, noFlag, rfl, rfl, rfl, rfl, rfl, rfl, rfl, rfl, rfl, rfl, fun a => rfl⟩
  by_cases params : r = .params
  · subst params
    obtain other | reference := hr
    · exact absurd rfl other
    · have word : regRead (hardReset s) .params = regRead State.reset .params := by
        rw [regRead, State.paramsWord, show (hardReset s).params = Params.reference s.params.baseAddr from reference]
        rfl
      exact word.trans (regRead_reset .params)
  · exact regRead_hardReset s params

end Machine
end Sys2Proof
end

section
/-! SUPPORT. A step is the run of the next event, and a write to `CMD` is the execution of the word it carries
(10_state.md R29, 45_control_commands.md R230, 30_encoding.md R90 to R96). -/

namespace Sys2Proof

/-- The eight bits of a word from `lo` up, put back where they were. -/
theorem getLsbD_byteInPlace (w : Word) (lo i : Nat) :
    (bitField 32 lo (w.extractLsb' lo 8)).getLsbD i =
      (decide (i < 32) && decide (lo ≤ i ∧ i < lo + 8) && w.getLsbD i) := by
  rw [getLsbD_bitField, BitVec.getLsbD_extractLsb']
  by_cases h : lo ≤ i
  · have width : i - lo < 8 ↔ i < lo + 8 := by omega
    simp [h, width, Bool.and_assoc]
  · simp [h]

/-- The four bytes of a word in bus order make the word (20_memory.md R72). -/
theorem wordOfBytes_bytes (w : Word) :
    wordOfBytes (w.extractLsb' 0 8) (w.extractLsb' 8 8) (w.extractLsb' 16 8) (w.extractLsb' 24 8) = w := by
  apply BitVec.eq_of_getLsbD_eq
  intro i hi
  simp only [wordOfBytes, BitVec.getLsbD_or, getLsbD_byteInPlace, hi]
  cases w.getLsbD i with
  | false => simp
  | true => simp; omega

end Sys2Proof

namespace Sys2Proof.Machine

/-- A command table's word decodes as the word it stands for. -/
theorem decode_tableWord {nbits v : Nat} {i : Instr} (h : decodeTableWord nbits v = some i) :
    decode (tableWord nbits v) = .ok i := by
  simp only [decodeTableWord, bytesOfWord, decodeBytes, wordOfBytes_bytes] at h
  cases d : decode (tableWord nbits v) with
  | ok j => rw [d] at h; cases h; rfl
  | error e => rw [d] at h; cases h

/-- A refusal, by the numbers of 60_exceptions.md R266. -/
theorem cmdRefuse_eq_refusedWith (code : ErrCode) (detail : BitVec 8) (w : Word) (s : State) :
    cmdRefuse code detail w s = refusedWith w code.code.toNat detail.toNat s := by
  rw [cmdRefuse, refusedWith, errWord_eq]

/-- A write to `CMD` is answered and executes its word (R230). -/
theorem runEvent_commandEvent (w : Word) (s : State) : runEvent (commandEvent w) s = cmdWrite w (answerWrite s) := rfl

theorem cmdWrite_of_decode_eq_ok {w : Word} {i : Instr} (h : decode w = .ok i) (s : State) :
    cmdWrite w s = exec i s := by
  rw [cmdWrite, h]

theorem cmdWrite_of_decode_ne_ok {w : Word} (h : ∀ i, decode w ≠ .ok i) (s : State) :
    cmdWrite w s = .next (refusedWith w 1 0 s) := by
  unfold cmdWrite
  split
  next i hi => exact absurd hi (h i)
  next => rw [cmdRefuse_eq_refusedWith]; rfl

theorem step_of_sched_eq_cons {s : State} {e : Event} {rest : List Event} (h : s.sched = e :: rest) :
    step s = runEvent e { s with sched := rest } := by
  simp only [step, nextEvent, takeEvent, h]

theorem step_of_sched_eq_nil {s : State} (h : s.sched = []) :
    step s = runEvent (Config.freeEvent s.turn) { s with turn := s.turn + 1 } := by
  simp only [step, nextEvent, takeEvent, h]

/-- Settles O5: the step is the head event's, and the event of a command is `CmdWrite` of its word. -/
theorem aStepExecutesTheDecodedCommand : Obligations.AStepExecutesTheDecodedCommand := by
  unfold Obligations.AStepExecutesTheDecodedCommand
  refine ⟨fun s w rest h => ⟨fun i hi => ?_, fun none => ?_⟩, fun s nbits v i hi => ?_,
    fun s e rest => step_of_sched_eq_cons, fun s => step_of_sched_eq_nil⟩
  · rw [step_of_sched_eq_cons h, runEvent_commandEvent, cmdWrite_of_decode_eq_ok hi]
  · rw [step_of_sched_eq_cons h, runEvent_commandEvent, cmdWrite_of_decode_ne_ok none]
  · have placed : (s.withFetchWord nbits v).sched = commandEvent (tableWord nbits v) :: s.sched := rfl
    rw [step_of_sched_eq_cons placed, runEvent_commandEvent, cmdWrite_of_decode_eq_ok (decode_tableWord hi)]
    rfl

end Sys2Proof.Machine
end

section
/-! SUPPORT. What no command reaches (20_memory.md R82, R89, 45_control_commands.md R230, R244): the frame of every
command but SOFT_RESET, proved once for the clears, the refusal and the acceptance the commands are made of. -/

namespace Sys2Proof.Machine

/-! ## The frame -/

/-- `t` differs from `s` at most in what a command other than SOFT_RESET may change: the active configuration, the
receiver's and the transmitter's progress, the failure count and the report of a refusal; `rptr` at most catches up with
what the core domain sees. -/
structure CommandFrame (s t : State) : Prop where
  equation :
    t =
      { s with
        active := t.active, cfgValid := t.cfgValid, rxRun := t.rxRun, err := t.err, errCmd := t.errCmd,
        flags := { s.flags with cmdErr := t.flags.cmdErr }, rxFailCount := t.rxFailCount, dec := t.dec, asm := t.asm,
        tx := t.tx, fifo := { s.fifo with rptr := t.fifo.rptr } }
  rptr : t.fifo.rptr = s.fifo.rptr ∨ t.fifo.rptr = s.fifo.wqR

theorem CommandFrame.refl (s : State) : CommandFrame s s := ⟨rfl, .inl rfl⟩

/-- Transitivity, the later step first: it names the state in between. -/
theorem CommandFrame.after {s t u : State} (h : CommandFrame t u) (h' : CommandFrame s t) : CommandFrame s u where
  equation :=
    h.equation.trans (congrArg
      (fun z : State =>
        { z with
          active := u.active, cfgValid := u.cfgValid, rxRun := u.rxRun, err := u.err, errCmd := u.errCmd,
          flags := { z.flags with cmdErr := u.flags.cmdErr }, rxFailCount := u.rxFailCount, dec := u.dec,
          asm := u.asm, tx := u.tx, fifo := { z.fifo with rptr := u.fifo.rptr } }) h'.equation)
  rptr := by
    obtain e | e := h.rptr <;> rw [e]
    · exact h'.rptr
    · exact .inr ((congrArg (fun z : State => z.fifo.wqR) h'.equation).trans rfl)

/-! ## The operations commands are made of -/

theorem cmdRefuse_commandFrame (code : ErrCode) (detail : BitVec 8) (w : Word) (s : State) :
    CommandFrame s (cmdRefuse code detail w s) := ⟨rfl, .inl rfl⟩

theorem decoderClearUnlessHeld_commandFrame (s : State) : CommandFrame s (decoderClearUnlessHeld s) := by
  obtain ⟨-, e⟩ | ⟨-, e⟩ := decoderClearUnlessHeld_cases s <;> rw [e] <;> exact ⟨rfl, .inl rfl⟩

/-- Clearing the assembler and a decoder that holds no packet, as CONFIGURE, RX_START and RX_STOP do. -/
theorem clears_commandFrame (s : State) : CommandFrame s (decoderClearUnlessHeld (assemblerClear s)) :=
  (decoderClearUnlessHeld_commandFrame _).after ⟨rfl, .inl rfl⟩

theorem pauseEnter_commandFrame (s : State) : CommandFrame s (pauseEnter s) := by
  obtain ⟨-, e⟩ | ⟨-, e⟩ | ⟨-, -, e⟩ := pauseEnter_cases s <;> rw [e] <;> exact ⟨rfl, .inl rfl⟩

theorem txAccept_commandFrame (items : List TxItem) (s : State) : CommandFrame s (txAccept items s) := by
  unfold txAccept
  dsimp only
  split
  · exact (pauseEnter_commandFrame _).after ⟨rfl, .inl rfl⟩
  · exact ⟨rfl, .inl rfl⟩

theorem RefusedOrAccepted.commandFrame {w : Word} {s t : State} (h : RefusedOrAccepted w s t) : CommandFrame s t := by
  obtain ⟨code, rfl⟩ | ⟨items, rfl⟩ := h
  · exact cmdRefuse_commandFrame ..
  · exact txAccept_commandFrame ..

/-! ## The commands -/

theorem execConfigure_commandFrame {s t : State} (h : execConfigure s = .next t) : CommandFrame s t := by
  simp only [execConfigure] at h
  split at h
  · cases h; exact cmdRefuse_commandFrame ..
  split at h <;> cases h
  · exact (cmdRefuse_commandFrame ..).after ⟨rfl, .inl rfl⟩
  · exact (clears_commandFrame _).after ⟨rfl, .inl rfl⟩

theorem execRxStart_commandFrame {s t : State} (h : execRxStart s = .next t) : CommandFrame s t := by
  simp only [execRxStart] at h
  split at h
  · cases h; exact cmdRefuse_commandFrame ..
  split at h <;> cases h
  · exact .refl s
  · have cleared := (clears_commandFrame { s with fifo := s.fifo.flushed }).after (s := s) ⟨rfl, .inr rfl⟩
    exact CommandFrame.after ⟨rfl, .inl rfl⟩ cleared

theorem execTxAbort_commandFrame {s t : State} (h : execTxAbort s = .next t) : CommandFrame s t := by
  unfold execTxAbort at h
  split at h <;> cases h
  · exact ⟨rfl, .inl rfl⟩
  · exact .refl s

/-- Every command but SOFT_RESET is in the frame. -/
theorem exec_commandFrame {i : Instr} {s t : State} (hi : i ≠ .softReset) (h : exec i s = .next t) :
    CommandFrame s t := by
  cases i with
  | softReset => exact absurd rfl hi
  | nop => cases h; exact .refl s
  | configure => exact execConfigure_commandFrame h
  | txFrame len => exact (execTxFrame_refusedOrAccepted h).commandFrame
  | txSymbol sym => exact (execTxSymbol_refusedOrAccepted h).commandFrame
  | txSilence => exact (execTxSilence_refusedOrAccepted h).commandFrame
  | txAbort => exact execTxAbort_commandFrame h
  | rxStart => exact execRxStart_commandFrame h
  | rxStop => cases h; exact (clears_commandFrame _).after ⟨rfl, .inl rfl⟩
  | rxResync => cases h; exact decoderClearUnlessHeld_commandFrame s
  | rxSlip count => cases h; exact ⟨rfl, .inl rfl⟩

/-! ## What the frame keeps -/

section
variable {s t : State} (h : CommandFrame s t)
include h

theorem CommandFrame.outsideKept : OutsideKept s t := by
  rw [h.equation]
  exact ⟨rfl, rfl, rfl, rfl, rfl, rfl, rfl, rfl, rfl⟩

theorem CommandFrame.rxLen_eq : t.rxLen = s.rxLen := (congrArg State.rxLen h.equation).trans rfl

/-- The registers a command can change: `STATUS`, the error registers and the receiver's and transmitter's progress. -/
theorem CommandFrame.regsKept :
    RegsKept [.status, .err, .errCmd, .rxStatus, .rxFailCount, .slipRemain, .txStatus, .fifoLevel] s t := by
  intro r unlisted
  rw [h.equation]
  cases r
  case status | err | errCmd | rxStatus | rxFailCount | slipRemain | txStatus | fifoLevel =>
    exact absurd (by decide) unlisted
  all_goals rfl

end

theorem softReset_outsideKept (s : State) : OutsideKept s (softReset s) := ⟨rfl, rfl, rfl, rfl, rfl, rfl, rfl, rfl, rfl⟩

theorem exec_outsideKept {i : Instr} {s t : State} (h : exec i s = .next t) : OutsideKept s t := by
  by_cases hi : i = .softReset
  · subst hi; cases h; exact softReset_outsideKept s
  · exact (exec_commandFrame hi h).outsideKept

/-- Settles O21: SOFT_RESET names what it keeps, and every other command is in `CommandFrame`. -/
theorem commandsLeaveMemoryAndTheSampleDomainAlone : Obligations.CommandsLeaveMemoryAndTheSampleDomainAlone := by
  unfold Obligations.CommandsLeaveMemoryAndTheSampleDomainAlone
  intro i s t h
  refine ⟨fun a => by rw [exec_mem h], exec_outsideKept h, ?_, fun hi => ?_⟩
  · by_cases hi : i = .softReset
    · subst hi; cases h; exact .inr rfl
    · exact (exec_commandFrame hi h).rptr
  · have frame := exec_commandFrame hi h
    refine ⟨?_, ?_, ?_, ?_, ?_, ?_, ?_, ?_, frame.regsKept⟩ <;> rw [frame.equation]

end Sys2Proof.Machine
end

section
/-! SUPPORT. A delivered packet stays until the host clears `RX_DONE` (43_capture_pipeline.md R197): what every agent's
step keeps of `RX_BUF`, `RX_LEN` and `RX_DONE` while `RX_DONE` is 1. -/

namespace Sys2Proof.Machine

/-! ## The frame -/

/-- `t` has the memory, `RX_LEN` and `RX_DONE` of `s`: the delivered packet is as it was. -/
structure PacketKept (s t : State) : Prop where
  mem : t.mem = s.mem
  rxLen : t.rxLen = s.rxLen
  rxDone : t.flags.rxDone = s.flags.rxDone

theorem PacketKept.refl (s : State) : PacketKept s s := ⟨rfl, rfl, rfl⟩

/-- Transitivity, the later step first: it names the state in between. -/
theorem PacketKept.after {s t u : State} (h : PacketKept t u) (h' : PacketKept s t) : PacketKept s u :=
  ⟨h.mem.trans h'.mem, h.rxLen.trans h'.rxLen, h.rxDone.trans h'.rxDone⟩

/-! ## The decoder -/

theorem shiftBit_packetKept (v : Bool) (s : State) : PacketKept s (shiftBit v s) := ⟨rfl, rfl, rfl⟩

theorem seekStartBit_packetKept (v : Bool) (s : State) : PacketKept s (seekStartBit v s) := by
  simp only [seekStartBit]; split <;> exact ⟨rfl, rfl, rfl⟩

theorem lengthDone_packetKept (s : State) : PacketKept s (lengthDone s).1 := by
  unfold lengthDone; split <;> exact ⟨rfl, rfl, rfl⟩

theorem payloadByteDone_packetKept (s : State) : PacketKept s (payloadByteDone s).1 := ⟨rfl, rfl, rfl⟩

theorem crcDone_packetKept (s : State) : PacketKept s (crcDone s).1 := by
  unfold crcDone; split <;> exact ⟨rfl, rfl, rfl⟩

/-- A completed packet waits in DONE_HOLD while the previous one is not taken (42_packet_codec.md R169). -/
theorem packetDone_of_rxDone {s : State} (done : s.flags.rxDone = true) :
    packetDone s = { s with dec := { s.dec with rxState := .doneHold } } := if_pos done

theorem endDone_packetKept {s : State} (done : s.flags.rxDone = true) : PacketKept s (endDone s).1 := by
  unfold endDone
  split
  · exact ⟨rfl, rfl, rfl⟩
  · rw [packetDone_of_rxDone done]; exact ⟨rfl, rfl, rfl⟩

/-- Only the last bit of an end marker could deliver a packet, and it holds it instead. -/
theorem decoderBit_packetKept {s : State} (done : s.flags.rxDone = true) (v : Bool) :
    PacketKept s (decoderBit v s).1 := by
  have shifted := shiftBit_packetKept v s
  unfold decoderBit
  cases s.dec.rxState <;> dsimp only
  case seekStart => exact seekStartBit_packetKept v s
  case doneHold => exact shifted
  all_goals split
  case readLen.isTrue => exact (lengthDone_packetKept _).after shifted
  case readPayload.isTrue => exact (payloadByteDone_packetKept _).after shifted
  case readCrc.isTrue => exact (crcDone_packetKept _).after shifted
  case seekEnd.isTrue => exact (endDone_packetKept (shifted.rxDone.trans done)).after shifted
  all_goals exact shifted

theorem feedBits_packetKept {s : State} (done : s.flags.rxDone = true) (vs : List Bool) :
    PacketKept s (feedBits vs s) := by
  induction vs generalizing s with
  | nil => exact .refl s
  | cons v vs ih =>
    have bit := decoderBit_packetKept done v
    simp only [feedBits]
    split
    next t e =>
      rw [e] at bit
      exact (ih (bit.rxDone.trans done)).after bit
    next t e => rw [e] at bit; exact bit

theorem decoderFeed_packetKept {s : State} (done : s.flags.rxDone = true) (kind : DetKind) (k1 : Nat) :
    PacketKept s (decoderFeed kind k1 s) := by
  unfold decoderFeed
  split
  · exact .refl s
  split
  · exact .refl s
  · exact feedBits_packetKept done _
  · exact .refl s
  · exact ⟨rfl, rfl, rfl⟩

/-! ## The agents -/

theorem blockEnd_packetKept {s : State} (done : s.flags.rxDone = true) : PacketKept s (blockEnd s) :=
  PacketKept.after (decoderFeed_packetKept (by exact done) _ _) ⟨rfl, rfl, rfl⟩

theorem assemble_packetKept {s : State} (done : s.flags.rxDone = true) (x : Sample) : PacketKept s (assemble x s) := by
  obtain ⟨-, e⟩ | ⟨-, -, e⟩ | ⟨-, -, e⟩ := assemble_cases x s <;> rw [e]
  · exact ⟨rfl, rfl, rfl⟩
  · exact ⟨rfl, rfl, rfl⟩
  · exact PacketKept.after (blockEnd_packetKept (by exact done)) ⟨rfl, rfl, rfl⟩

theorem loopbackIn_packetKept {s : State} (done : s.flags.rxDone = true) (x : Sample) :
    PacketKept s (loopbackIn x s) := by
  unfold loopbackIn
  split
  · exact assemble_packetKept done x
  · exact .refl s

theorem txAdvance_packetKept (s : State) : PacketKept s (txAdvance s) := by
  obtain ⟨-, e⟩ | ⟨-, -, e⟩ | ⟨-, -, e⟩ := txAdvance_cases s <;> rw [e] <;> exact ⟨rfl, rfl, rfl⟩

theorem txStep_packetKept {s : State} (done : s.flags.rxDone = true) : PacketKept s (txStep s) := by
  refine (txAdvance_packetKept _).after ?_
  split
  · exact PacketKept.after (loopbackIn_packetKept (by exact done) _) ⟨rfl, rfl, rfl⟩
  · exact ⟨rfl, rfl, rfl⟩

theorem rxPop_packetKept {s : State} (done : s.flags.rxDone = true) : PacketKept s (rxPop s) := by
  unfold rxPop
  dsimp only
  split
  · exact PacketKept.after (assemble_packetKept (by exact done) _) ⟨rfl, rfl, rfl⟩
  · exact ⟨rfl, rfl, rfl⟩

theorem srcPush_packetKept (x : Sample) (s : State) : PacketKept s (srcPush x s) := by
  unfold srcPush
  dsimp only
  split <;> exact ⟨rfl, rfl, rfl⟩

theorem hostRead_packetKept (off : BitVec 12) (size : BitVec 2) (s : State) : PacketKept s (hostRead off size s) := by
  obtain e | ⟨v, e⟩ := hostRead_cases off size s <;> rw [e] <;> exact ⟨rfl, rfl, rfl⟩

theorem deliverHeldEnabled_of_rxDone {s : State} (done : s.flags.rxDone = true) : deliverHeldEnabled s = false := by
  simp [deliverHeldEnabled, done]

/-- While `RX_DONE` is 1, every event but a host write and `rst` keeps the delivered packet. -/
theorem runEvent_packetKept {s t : State} {e : Event} (done : s.flags.rxDone = true) (h : runEvent e s = .next t) :
    PacketKept s t ∨ (∃ off size d, e = .hostWrite off size d) ∨ e = .rst := by
  cases e with
  | hostWrite off size d => exact .inr (.inl ⟨off, size, d, rfl⟩)
  | rst => exact .inr (.inr rfl)
  | syncW2R => cases h; exact .inl ⟨rfl, rfl, rfl⟩
  | syncR2W => cases h; exact .inl ⟨rfl, rfl, rfl⟩
  | hostRead off size => cases h; exact .inl (hostRead_packetKept ..)
  | srcPush x => cases h; exact .inl (srcPush_packetKept ..)
  | txStep =>
    cases h
    split
    · exact .inl (txStep_packetKept done)
    · exact .inl (.refl s)
  | rxPop =>
    cases h
    split
    · exact .inl (rxPop_packetKept done)
    · exact .inl (.refl s)
  | deliverHeld =>
    have passes : runEvent .deliverHeld s = .next s := by simp [runEvent, deliverHeldEnabled_of_rxDone done]
    rw [passes] at h
    cases h
    exact .inl (.refl s)

/-! ## The host's writes -/

theorem regWrite_rxLen {d : Word} {s t : State} {r : Reg} (hr : r ≠ .cmd) (h : regWrite d s r = .next t) :
    t.rxLen = s.rxLen := by
  cases r with
  | cmd => exact absurd rfl hr
  | _ => cases h; rfl

/-- No command but SOFT_RESET changes `RX_LEN`. -/
theorem cmdWrite_rxLen {w : Word} {s t : State} (h : cmdWrite w s = .next t) :
    t.rxLen = s.rxLen ∨ w = 0x02000000#32 := by
  unfold cmdWrite at h
  split at h
  next i hi =>
    by_cases reset : i = .softReset
    · exact .inr (eq_encode_of_decode_eq_ok (reset ▸ hi) (.inr rfl))
    · exact .inl (exec_commandFrame reset h).rxLen_eq
  next => cases h; exact .inl rfl

theorem hostWrite_rxLen {off : BitVec 12} {size : BitVec 2} {d : Word} {s t : State}
    (h : hostWrite off size d s = .next t) :
    t.rxLen = s.rxLen ∨ Event.hostWrite off size d = commandEvent 0x02000000#32 := by
  obtain ⟨r, rfl, place, e⟩ | e | ⟨m, e⟩ := hostWrite_cases off size d s <;> rw [e] at h
  · by_cases hr : r = .cmd
    · subst hr
      obtain rfl : off = cmdOffset := BitVec.eq_of_toNat_eq place.symm
      exact (cmdWrite_rxLen h).imp id fun (word : d = 0x02000000#32) => word ▸ rfl
    · exact .inl ((regWrite_rxLen hr h).trans (answerWrite_rxLen s))
  · cases h; exact .inl rfl
  · cases h; exact .inl rfl

/-- Settles O48: the core's steps are in `PacketKept`, a host write reaches neither `RX_BUF` nor, but for SOFT_RESET,
`RX_LEN`, and `rst` keeps memory. -/
theorem aDeliveredPacketIsStable : Obligations.ADeliveredPacketIsStable := by
  unfold Obligations.ADeliveredPacketIsStable
  refine ⟨fun s t e wf done h => ?_, fun s => packetDone_of_rxDone⟩
  obtain kept | ⟨off, size, d, rfl⟩ | rfl := runEvent_packetKept done h
  · exact ⟨fun j => by rw [kept.mem], .inl kept.rxLen⟩
  · exact ⟨fun j => hostWrite_read_above wf h (Nat.le_add_right 0x200 j), (hostWrite_rxLen h).imp id .inr⟩
  · cases h
    exact ⟨fun j => rfl, .inr (.inl rfl)⟩

end Sys2Proof.Machine
end

section
/-! SUPPORT. Which accesses the register window answers and which it refuses, and what a read leaves behind
(20_memory.md R71 to R81, 60_exceptions.md R268). -/

namespace Sys2Proof.Machine

/-! ## Widths and registers -/

theorem accessBytes_of_ne_three {size : BitVec 2} (h : size ≠ 3#2) : accessBytes size = some (2 ^ size.toNat) := by
  revert size; decide

theorem two_pow_eq_four_iff (size : BitVec 2) : 2 ^ size.toNat = 4 ↔ size = 2#2 := by
  revert size; decide

theorem Reg.mem_all (r : Reg) : r ∈ Reg.all := by
  cases r <;> decide

/-- The registers stand at different offsets, so each is found at its own (10_state.md R23). -/
theorem regAt_offset (r : Reg) : regAt r.offset = some r := by
  cases r <;> rfl

theorem regAt_eq_none_iff (o : Nat) : regAt o = none ↔ ∀ r : Reg, r.offset ≠ o := by
  simp [regAt, Reg.mem_all]

/-- A 32-bit write at a register's offset is answered and writes the register (20_memory.md R80). -/
theorem hostWrite_register (r : Reg) (d : Word) (s : State) :
    hostWrite (BitVec.ofNat 12 r.offset) 2#2 d s = regWrite d (answerWrite s) r := by
  cases r <;> rfl

/-- A 32-bit read at a register's offset answers the register's value (R79). -/
theorem hostRead_register (r : Reg) (s : State) :
    hostRead (BitVec.ofNat 12 r.offset) 2#2 s = answerRead (regRead s r) s := by
  cases r <;> rfl

/-! ## Refused and answered accesses -/

/-- The accesses that raise a bus error: an illegal size, a misaligned offset, a narrow access to the control region, an
unmapped offset (R71, R73, R76, R77). -/
def AccessRefused (off : BitVec 12) (size : BitVec 2) : Prop :=
  size = 3#2 ∨ off.toNat % 2 ^ size.toNat ≠ 0 ∨
    (off.toNat < 0x100 ∧ (size ≠ 2#2 ∨ ∀ r : Reg, r.offset ≠ off.toNat)) ∨ 0x300 ≤ off.toNat

/-- A refused access raises the bus error, whichever cause it has. -/
theorem AccessRefused.error {off : BitVec 12} {size : BitVec 2} (h : AccessRefused off size) (d : Word) (s : State) :
    hostRead off size s = readError s ∧ hostWrite off size d s = .next (writeError s) := by
  by_cases legal : size = 3#2
  · subst legal; exact ⟨rfl, rfl⟩
  unfold hostRead hostWrite
  simp only [accessBytes_of_ne_three legal]
  by_cases misaligned : off.toNat % 2 ^ size.toNat ≠ 0
  · simp [misaligned]
  obtain illegal | misaligned' | ⟨control, narrow | unmapped⟩ | above := h
  · exact absurd illegal legal
  · exact absurd misaligned' misaligned
  · have width : 2 ^ size.toNat ≠ 4 := mt (two_pow_eq_four_iff size).1 narrow
    simp [misaligned, control, width]
  · simp [misaligned, control, (regAt_eq_none_iff _).2 unmapped]
  · simp [misaligned, show ¬ off.toNat < 0x100 by omega, show ¬ off.toNat < 0x200 by omega, not_lt.2 above]

/-- Every other access is answered with a value or taken: a register write, or a write that changes at most memory. -/
theorem answered_of_not_accessRefused {off : BitVec 12} {size : BitVec 2} (h : ¬ AccessRefused off size) (d : Word)
    (s : State) :
    (∃ v, hostRead off size s = answerRead v s) ∧
      ((∃ r, hostWrite off size d s = regWrite d (answerWrite s) r) ∨
        ∃ m, hostWrite off size d s = .next (answerWrite { s with mem := m })) := by
  simp only [AccessRefused, not_or, not_and, not_le, not_not] at h
  obtain ⟨legal, aligned, control, below⟩ := h
  unfold hostRead hostWrite
  simp only [accessBytes_of_ne_three legal, aligned, below]
  by_cases low : off.toNat < 0x100
  · obtain ⟨word, mapped⟩ := control low
    have width : 2 ^ size.toNat = 4 := (two_pow_eq_four_iff size).2 word
    obtain ⟨r, found⟩ := Option.ne_none_iff_exists'.1 (mt (regAt_eq_none_iff _).1 mapped)
    simp only [low, width, found]
    exact ⟨⟨_, rfl⟩, .inl ⟨r, rfl⟩⟩
  by_cases tx : off.toNat < 0x200
  · simp only [low, tx]
    exact ⟨⟨_, rfl⟩, .inr ⟨_, rfl⟩⟩
  · simp only [low, tx]
    exact ⟨⟨_, rfl⟩, .inr ⟨s.mem, rfl⟩⟩

/-- A register write completes and leaves the answer on the bus alone, a command included (log entry 4). -/
theorem regWrite_bus (d : Word) (s : State) (r : Reg) : ∃ t, regWrite d s r = .next t ∧ t.bus = s.bus := by
  cases r with
  | cmd =>
    simp only [regWrite, cmdWrite]
    split
    next i _ =>
      obtain ⟨t, e⟩ := exec_next i s
      obtain ⟨-, -, -, -, -, -, bus, -⟩ := exec_outsideKept e
      exact ⟨t, e, bus⟩
    next => exact ⟨_, rfl, rfl⟩
  | _ => exact ⟨_, rfl, rfl⟩

/-- Settles O23: a refused access is an error for its own cause, and any other is answered. -/
theorem busErrorsAreExactlyTheRefusedAccesses : Obligations.BusErrorsAreExactlyTheRefusedAccesses := by
  unfold Obligations.BusErrorsAreExactlyTheRefusedAccesses
  intro s off size d
  refine ⟨fun (bad : AccessRefused off size) => bad.error d s, fun (good : ¬ AccessRefused off size) => ?_⟩
  obtain ⟨read, ⟨r, e⟩ | ⟨m, e⟩⟩ := answered_of_not_accessRefused good d s
  · obtain ⟨t, written, bus⟩ := regWrite_bus d (answerWrite s) r
    exact ⟨read, t, e.trans written, bus⟩
  · exact ⟨read, _, e, rfl⟩

/-! ## Reads -/

theorem regRead_answerRead (v : Word) (s : State) (r : Reg) : regRead (answerRead v s) r = regRead s r := by
  cases r <;> rfl

theorem bufWord_answerRead (base j : Nat) (v : Word) (s : State) (n : Nat) :
    bufWord base j (answerRead v s) n = bufWord base j s n := by
  induction n generalizing j with
  | zero => rfl
  | succ n ih => rw [bufWord, bufWord, ih]; rfl

/-- An earlier read's answer has no influence on a read. -/
theorem hostRead_answerRead (off : BitVec 12) (size : BitVec 2) (v : Word) (s : State) :
    hostRead off size (answerRead v s) = hostRead off size s := by
  have overwritten : ∀ w, answerRead w (answerRead v s) = answerRead w s := fun _ => rfl
  have error : readError (answerRead v s) = readError s := rfl
  simp only [hostRead, regRead_answerRead, bufWord_answerRead, overwritten, error]

/-- Settles O24: a read is an error or an answer, and an answer does not change what a read answers. -/
theorem readsChangeNothingButTheBusErrorFlag : Obligations.ReadsChangeNothingButTheBusErrorFlag := by
  unfold Obligations.ReadsChangeNothingButTheBusErrorFlag
  refine fun s off size => ⟨?_, fun r => hostRead_register r s⟩
  obtain e | ⟨v, e⟩ := hostRead_cases off size s
  · dsimp only
    rw [e]
    exact ⟨rfl, fun a => rfl, nofun⟩
  · dsimp only
    rw [e, hostRead_answerRead]
    exact ⟨rfl, fun a => rfl, fun _ _ => ⟨rfl, e⟩⟩

end Sys2Proof.Machine
end

section
/-! SUPPORT. What a 32-bit write to a register stores and leaves unchanged (20_memory.md R80): the masked bits as the
field they are, and each register against every other. -/

namespace Sys2Proof

/-- A word masked to the `n` bits from `lo` up is the field of those bits in its place. -/
theorem bitField_extractLsb' (d : Word) (lo n : Nat) :
    bitField 32 lo (d.extractLsb' lo n) = d &&& bitField 32 lo (BitVec.allOnes n) := by
  apply BitVec.eq_of_getLsbD_eq
  intro i hi
  by_cases h : lo ≤ i
  · simp [hi, h, Bool.and_comm]
  · simp [h]

/-- A word cut to its low `n` bits and read back as a word. -/
theorem setWidth_setWidth_eq_and (d : Word) (n : Nat) :
    (d.setWidth n).setWidth 32 = d &&& (BitVec.allOnes n).setWidth 32 := by
  apply BitVec.eq_of_getLsbD_eq
  intro i hi
  simp [hi, Bool.and_comm]

namespace Machine

/-! ## Read-write registers -/

/-- A read-write register reads back the bits of its mask. -/
theorem regRead_regWrite_same {r : Reg} {mask d : Word} {s t : State} (hm : r.writeMask = some mask)
    (h : regWrite d s r = .next t) : regRead t r = d &&& mask := by
  cases r <;> cases hm <;> cases h
  case irqEn => exact bitField_extractLsb' d 8 6
  case noiseFloor => exact BitVec.and_allOnes.symm
  case markers =>
    have low : d.setWidth 8 = d.extractLsb' 0 8 := BitVec.setWidth_eq_extractLsb' (by decide)
    have masks : bitField 32 8 (BitVec.allOnes 8) ||| bitField 32 0 (BitVec.allOnes 8) = 0x0000FFFF#32 := by decide
    calc bitField 32 8 (d.extractLsb' 8 8) ||| bitField 32 0 (d.setWidth 8)
        = d &&& (bitField 32 8 (BitVec.allOnes 8) ||| bitField 32 0 (BitVec.allOnes 8)) := by
          rw [low, bitField_extractLsb', bitField_extractLsb', BitVec.and_or_distrib_left]
      _ = d &&& 0x0000FFFF#32 := by rw [masks]
  all_goals exact setWidth_setWidth_eq_and d _

/-- A write to a read-write register changes `CTRL`, `IRQ_EN` or a staging register. -/
theorem regWrite_of_writeMask {r : Reg} {mask : Word} (hm : r.writeMask = some mask) (d : Word) (s : State) :
    ∃ t, regWrite d s r = .next t ∧ t = { s with ctrl := t.ctrl, irqEn := t.irqEn, staging := t.staging } := by
  cases r <;> cases hm <;> exact ⟨_, rfl, rfl⟩

/-- A write to a register other than `CMD` leaves every other register's value alone. -/
theorem regWrite_regsKept {d : Word} {s t : State} {r : Reg} (hr : r ≠ .cmd) (h : regWrite d s r = .next t) :
    RegsKept [r] s t := by
  intro r' unlisted
  have ne : r' ≠ r := by simpa using unlisted
  cases r
  case cmd => exact absurd rfl hr
  all_goals cases r'
  case ctrl.ctrl | status.status | irqEn.irqEn | baseHz.baseHz | stepHz.stepHz | symbolCount.symbolCount
    | sampleRate.sampleRate | samplesPerBit.samplesPerBit | amplitude.amplitude | tolerance.tolerance
    | noiseFloor.noiseFloor | markers.markers => exact absurd rfl ne
  all_goals cases h; rfl

/-! ## The other registers -/

/-- A read-only register ignores a write. -/
theorem regWrite_readOnly {r : Reg} (hm : r.writeMask = none) (notStatus : r ≠ .status) (notCmd : r ≠ .cmd) (d : Word)
    (s : State) : regWrite d s r = .next s := by
  cases r
  case status => exact absurd rfl notStatus
  case cmd => exact absurd rfl notCmd
  case ctrl | irqEn | baseHz | stepHz | symbolCount | sampleRate | samplesPerBit | amplitude | tolerance | noiseFloor
    | markers => cases hm
  all_goals rfl

/-- Bit by bit, an acknowledgement keeps the flags that are not written as 1 (10_state.md R27). -/
theorem getLsbD_bits_ack (f : EventFlags) (d : Word) {i : Nat} (hi : i < 6) :
    (f.ack d).bits.getLsbD i = (f.bits.getLsbD i && !d.getLsbD (8 + i)) := by
  obtain rfl | rfl | rfl | rfl | rfl | rfl : i = 0 ∨ i = 1 ∨ i = 2 ∨ i = 3 ∨ i = 4 ∨ i = 5 := by omega
  all_goals simp [EventFlags.bits, EventFlags.ack]

theorem answerWrite_regsKept (except : List Reg) (s : State) : RegsKept except s (answerWrite s) := by
  intro r _
  cases r <;> rfl

/-- A register other than `CMD` and the bus answer: no other register's value depends on the written one. -/
theorem regWrite_answerWrite_regsKept {d : Word} {s t : State} {r : Reg} (hr : r ≠ .cmd)
    (h : regWrite d (answerWrite s) r = .next t) : RegsKept [r] s t :=
  fun r' unlisted => (regWrite_regsKept hr h r' unlisted).trans (answerWrite_regsKept [r] s r' unlisted)

/-- Settles O22: the write at a register's offset is `RegWrite`, whose four kinds of register have a lemma each. -/
theorem registerWritesStoreTheNamedBits : Obligations.RegisterWritesStoreTheNamedBits := by
  unfold Obligations.RegisterWritesStoreTheNamedBits
  intro s r d
  dsimp only
  rw [hostWrite_register]
  refine ⟨fun mask hm => ?masked, ?status, ?cmd, fun hm notStatus notCmd => regWrite_readOnly hm notStatus notCmd d _⟩
  case masked =>
    have notCmd : r ≠ .cmd := by rintro rfl; cases hm
    obtain ⟨t, e, changed⟩ := regWrite_of_writeMask hm d (answerWrite s)
    exact ⟨t, e, regRead_regWrite_same hm e, changed, regWrite_answerWrite_regsKept notCmd e, fun a => by
      rw [regWrite_mem e, answerWrite_mem]⟩
  case status =>
    rintro rfl
    refine ⟨_, rfl, fun i hi => ?_, rfl, regWrite_answerWrite_regsKept (d := d) nofun rfl, fun a => rfl⟩
    simp only [regRead, statusWord_flags _ i hi]
    exact getLsbD_bits_ack s.flags d hi
  case cmd =>
    rintro rfl
    rfl

end Machine
end Sys2Proof
end

section
/-! SUPPORT. `TX_BUF` is little-endian (10_state.md R55, 20_memory.md R72 to R75): what every byte of memory reads as
after a write to the buffer. -/

namespace Sys2Proof.Machine

/-! ## One byte, then the next -/

/-- Byte `i` of the data past its first byte. -/
theorem extractLsb'_byte_succ (d : Word) (i : Nat) :
    (d >>> 8).extractLsb' (8 * i) 8 = d.extractLsb' (8 * (i + 1)) 8 := by
  ext k hk
  simp [Nat.mul_add, ← Nat.add_assoc, Nat.add_comm 8 (8 * i)]

/-- One byte of a buffer write: stored below `P_MAX_PAYLOAD`, else ignored (R75). -/
theorem read_write_below {m : Memory} (wf : m.wf) (maxPayload j a : Nat) (v : Byte) :
    (if j < maxPayload then m.write (txBufBase + j) v else m).read a =
      if a = txBufBase + j ∧ j < maxPayload then v else m.read a := by
  by_cases stored : j < maxPayload
  · by_cases here : a = txBufBase + j
    · simp [stored, here, Memory.read_write_same wf]
    · simp [stored, here, Memory.read_write_other wf here]
  · simp [stored]

/-! ## The buffer -/

/-- What a byte of memory reads as after one write of `n` bytes from `TX_BUF[j]`. -/
theorem read_txBufWrite {m : Memory} (wf : m.wf) (maxPayload j : Nat) (data : Word) (n a : Nat) :
    (txBufWrite maxPayload m j data n).read a =
      if txBufBase + j ≤ a ∧ a < txBufBase + j + n ∧ a < txBufBase + maxPayload then
        data.extractLsb' (8 * (a - (txBufBase + j))) 8
      else m.read a := by
  induction n generalizing m j data with
  | zero => rw [if_neg (by omega)]; rfl
  | succ n ih =>
    have first : (if j < maxPayload then m.write (txBufBase + j) (data.setWidth 8) else m).wf :=
      txBufWrite_wf wf maxPayload j data 1
    rw [txBufWrite, ih first, read_write_below wf]
    by_cases here : a = txBufBase + j
    · subst here
      simp [BitVec.setWidth_eq_extractLsb']
    · by_cases past : txBufBase + (j + 1) ≤ a
      · have index : a - (txBufBase + j) = a - (txBufBase + (j + 1)) + 1 := by omega
        have inside : a < txBufBase + (j + 1) + n ↔ a < txBufBase + j + (n + 1) := by omega
        simp [here, past, inside, index, extractLsb'_byte_succ, show txBufBase + j ≤ a by omega]
      · simp [here, past, show ¬ txBufBase + j ≤ a by omega]

/-- An aligned write at an offset of `TX_BUF` stores its bytes from that offset (R75). -/
theorem hostWrite_txBuf {off : BitVec 12} {size : BitVec 2} {n j : Nat} (hn : accessBytes size = some n)
    (aligned : off.toNat % n = 0) (place : off.toNat = txBufBase + j) (hj : j < 0x100) (d : Word) (s : State) :
    hostWrite off size d s = .next (answerWrite { s with mem := txBufWrite s.params.maxPayload s.mem j d n }) := by
  have start : off.toNat - 0x100 = j := by rw [place, txBufBase]; omega
  have region : ¬ off.toNat < 0x100 ∧ off.toNat < 0x200 := by rw [place, txBufBase]; omega
  simp [hostWrite, hn, aligned, region, start]

/-- An aligned read there answers the bytes from that offset (R74). -/
theorem hostRead_txBuf {off : BitVec 12} {size : BitVec 2} {n j : Nat} (hn : accessBytes size = some n)
    (aligned : off.toNat % n = 0) (place : off.toNat = txBufBase + j) (hj : j < 0x100) (s : State) :
    hostRead off size s = answerRead (bufWord txBufBase j s n) s := by
  have start : off.toNat - 0x100 = j := by rw [place, txBufBase]; omega
  have region : ¬ off.toNat < 0x100 ∧ off.toNat < 0x200 := by rw [place, txBufBase]; omega
  simp [hostRead, hn, aligned, region, start]

/-- Settles O25: the write is `txBufWrite`, whose every byte is known, and the read is the word of those bytes. -/
theorem txBufIsLittleEndian : Obligations.TxBufIsLittleEndian := by
  unfold Obligations.TxBufIsLittleEndian
  intro s off size n d wf hn aligned lo hi
  obtain ⟨j, place⟩ : ∃ j, off.toNat = txBufBase + j := Nat.exists_eq_add_of_le lo
  have hj : j < 0x100 := by rw [place, txBufBase] at hi; omega
  have byte := read_txBufWrite wf s.params.maxPayload j d n
  have stored : ∀ i, i < n → txBufBase + j + i < txBufBase + s.params.maxPayload →
      (txBufWrite s.params.maxPayload s.mem j d n).read (txBufBase + j + i) = d.extractLsb' (8 * i) 8 := by
    intro i less below
    rw [byte, if_pos (by omega), Nat.add_sub_cancel_left]
  refine ⟨_, _, hostWrite_txBuf hn aligned place hj d s, rfl, txBufWrite_wf wf .., ?_, ?_, ?_,
    hostRead_txBuf hn aligned place hj _, bufWord_toNat_lt .., fun i less => ?_⟩
  · rw [place]; exact stored
  · exact fun a outside => (byte a).trans (if_neg (by omega))
  · exact fun a above => (byte a).trans (if_neg (by rw [txBufBase]; omega))
  · have fits : n ≤ 4 := by obtain rfl | rfl | rfl := accessBytes_cases hn <;> decide
    have below : j + i < s.params.maxPayload ↔ txBufBase + j + i < txBufBase + s.params.maxPayload := by omega
    rw [extractLsb'_bufWord _ _ _ less fits, place, bufByte, ← Nat.add_assoc]
    exact ite_congr (propext below) (stored i less) fun _ => rfl

end Sys2Proof.Machine
end

section
/-! SUPPORT. Decoding and encoding are inverse, and which words are no command (30_encoding.md R91 to R96): the rows of
the opcode map exclude each other, so a word decodes by whichever row it matches, and each row's instruction encodes
back to the bits the row fixes and the operand it read. -/

namespace Sys2Proof

/-! ## A word decodes by the row it matches -/

theorem OpcodeRow.matches_iff {r : OpcodeRow} {w : Word} : r.matches w = true ↔ w &&& r.mask = r.pattern := beq_iff_eq

/-- Some bit that both rows fix has different values in them. -/
abbrev OpcodeRow.Excludes (r r' : OpcodeRow) : Prop := r.pattern &&& r'.mask ≠ r'.pattern &&& r.mask

theorem OpcodeRow.Excludes.not_matches {r r' : OpcodeRow} (excl : r.Excludes r') {w : Word}
    (hw' : w &&& r'.mask = r'.pattern) : ¬ r.matches w = true := by
  intro hm
  have hw : w &&& r.mask = r.pattern := OpcodeRow.matches_iff.1 hm
  apply excl
  rw [← hw, ← hw', BitVec.and_assoc, BitVec.and_assoc, BitVec.and_comm r.mask]

theorem opcodeRows_pairwise_excludes : opcodeRows.Pairwise OpcodeRow.Excludes := by decide

/-- Where the rows exclude each other, their order does not matter. -/
theorem decodeRows_of_mem {rows : List OpcodeRow} (excl : rows.Pairwise OpcodeRow.Excludes) {r : OpcodeRow}
    (hr : r ∈ rows) {w : Word} (hw : w &&& r.mask = r.pattern) : decodeRows rows w = .ok (r.instr w) := by
  induction excl with
  | nil => cases hr
  | @cons first rest exclFirst _ ih =>
    rw [decodeRows]
    obtain rfl | later := List.mem_cons.1 hr
    · exact if_pos (OpcodeRow.matches_iff.2 hw)
    · rw [if_neg ((exclFirst r later).not_matches hw), ih later]

/-- `Decode` is the opcode map R92, whatever the order of its rows (R95). -/
theorem decode_eq_ok_iff {w : Word} {i : Instr} :
    decode w = .ok i ↔ ∃ r ∈ opcodeRows, w &&& r.mask = r.pattern ∧ r.instr w = i := by
  refine ⟨Machine.exists_row_of_decodeRows_eq_ok, ?_⟩
  rintro ⟨r, hr, hw, rfl⟩
  exact decodeRows_of_mem opcodeRows_pairwise_excludes hr hw

theorem decode_ne_ok_iff {w : Word} :
    (∀ i, decode w ≠ .ok i) ↔ ∀ r ∈ opcodeRows, w &&& r.mask ≠ r.pattern := by
  simp only [ne_eq, decode_eq_ok_iff]
  exact ⟨fun none r hr hw => none _ ⟨r, hr, hw, rfl⟩, fun none _ ⟨r, hr, hw, _⟩ => none r hr hw⟩

/-! ## A row's instruction encodes to the row's bits and its operand -/

/-- On every word the row's instruction is well formed, and its encoding has the row's bits and, where the row fixes
none, the word's. -/
def OpcodeRow.Encodes (r : OpcodeRow) : Prop :=
  ∀ w, (r.instr w).WellFormed ∧ encode (r.instr w) = r.pattern ||| w &&& ~~~r.mask

theorem OpcodeRow.encodes_of_fullMask {i : Instr} {p : Word} (wf : i.WellFormed) (hp : encode i = p) :
    OpcodeRow.Encodes { mask := 0xFFFFFFFF#32, pattern := p, instr := fun _ => i } := by
  intro w
  have free : w &&& ~~~0xFFFFFFFF#32 = 0#32 := BitVec.and_zero
  exact ⟨wf, by rw [free, BitVec.or_zero]; exact hp⟩

/-- The encoding of an instruction whose operand is the low `n` bits of `w`, the bits that `mask` leaves free. -/
theorem encode_of_operand_eq_lowBits {n : Nat} (fits : n ≤ 16) {mask p w : Word} {opc : BitVec 8} {i : Instr}
    (free : bitField 32 0 (BitVec.allOnes n) = ~~~mask) (hp : bitField 32 24 opc = p) (hopc : i.opcode = opc)
    (hopnd : i.operand = BitVec.ofNat 16 (w.extractLsb' 0 n).toNat) : encode i = p ||| w &&& ~~~mask := by
  have inside : ¬ (16 < n ∧ 16 < 32) := by omega
  rw [← free, ← bitField_extractLsb', ← hp, encode, commandWord, hopc, hopnd, bitField, bitField, bitField,
    BitVec.ofNat_toNat, BitVec.setWidth_setWidth inside]

theorem opcodeRows_encode : ∀ r ∈ opcodeRows, r.Encodes := by
  have fixed := @OpcodeRow.encodes_of_fullMask
  simp only [opcodeRows, List.forall_mem_cons]
  refine ⟨fixed rfl rfl, fixed rfl rfl, fixed rfl rfl, fun w => ⟨decide_eq_true (BitVec.isLt _), ?_⟩,
    fun w => ⟨decide_eq_true (BitVec.isLt _), ?_⟩, fixed rfl rfl, fixed rfl rfl, fixed rfl rfl, fixed rfl rfl,
    fixed rfl rfl, fun w => ⟨decide_eq_true (BitVec.isLt _), ?_⟩, List.forall_mem_nil _⟩
  · exact encode_of_operand_eq_lowBits (n := 16) (opc := 0x10#8) (by decide) (by decide) (by decide) rfl rfl
  · exact encode_of_operand_eq_lowBits (n := 4) (opc := 0x11#8) (by decide) (by decide) (by decide) rfl rfl
  · exact encode_of_operand_eq_lowBits (n := 16) (opc := 0x23#8) (by decide) (by decide) (by decide) rfl rfl

/-- A word encodes what it decodes to: its bits are the row's and the free ones (R92, R95). -/
theorem wellFormed_and_encode_eq_of_decode {w : Word} {i : Instr} (h : decode w = .ok i) :
    i.WellFormed ∧ encode i = w := by
  obtain ⟨r, hr, hw, rfl⟩ := decode_eq_ok_iff.1 h
  obtain ⟨wf, bits⟩ := opcodeRows_encode r hr w
  refine ⟨wf, ?_⟩
  rw [bits, ← hw, ← BitVec.and_or_distrib_left, BitVec.or_not_self, BitVec.and_allOnes]

/-! ## An encoding decodes -/

theorem operand16_encode (i : Instr) : operand16 (encode i) = i.operand.toNat :=
  congrArg BitVec.toNat (Laws.EncodingFields.commandWord_fields i.opcode i.operand).2.2

theorem operand4_eq_operand16_mod (w : Word) : operand4 w = operand16 w % 2 ^ 4 := by
  rw [operand4, operand16, BitVec.extractLsb'_toNat, BitVec.extractLsb'_toNat, Nat.mod_mod_of_dvd _ (by decide)]

/-- Some row reads a well-formed instruction back from the fields of its encoding. -/
theorem exists_row_instr_encode {i : Instr} (wf : i.WellFormed) : ∃ r ∈ opcodeRows, r.instr (encode i) = i := by
  simp only [opcodeRows, List.exists_mem_cons_iff, operand4_eq_operand16_mod, operand16_encode]
  cases i with
  | txFrame len =>
    have fits : len < 65536 := of_decide_eq_true wf
    simp [Instr.operand, fits]
  | txSymbol sym =>
    have fits : sym < 16 := of_decide_eq_true wf
    have value : sym % 65536 % 16 = sym := by omega
    simp [Instr.operand, value]
  | rxSlip count =>
    have fits : count < 65536 := of_decide_eq_true wf
    simp [Instr.operand, fits]
  | _ => simp

theorem opcodeRows_pattern_and_mask : ∀ r ∈ opcodeRows, r.pattern &&& r.mask = r.pattern := by decide

/-- The row that reads the instruction back is one its encoding matches. -/
theorem decode_encode {i : Instr} (wf : i.WellFormed) : decode (encode i) = .ok i := by
  obtain ⟨r, hr, hi⟩ := exists_row_instr_encode wf
  obtain ⟨-, bits⟩ := opcodeRows_encode r hr (encode i)
  have free : ~~~r.mask &&& r.mask = 0#32 := (BitVec.and_comm _ _).trans (BitVec.and_not_self _)
  have hw : encode i &&& r.mask = r.pattern := by
    rw [hi] at bits
    rw [bits, BitVec.and_or_distrib_right, opcodeRows_pattern_and_mask r hr, BitVec.and_assoc, free, BitVec.and_zero,
      BitVec.or_zero]
  exact decode_eq_ok_iff.2 ⟨r, hr, hw, hi⟩

theorem decodeBytes_bytesOfWord_append {w : Word} {i : Instr} (h : decode w = .ok i) (rest : List Byte) :
    decodeBytes (bytesOfWord w ++ rest) = .ok (i, rest) := by
  simp only [bytesOfWord, List.cons_append, List.nil_append, decodeBytes, wordOfBytes_bytes, h]

/-! ## The words that match no row, as numbers -/

/-- Two words agree under the mask of all but the low `n` bits when they agree as numbers without them. -/
theorem and_highMask_inj {n : Nat} (fits : n ≤ 32) (w p : Word) :
    w &&& bitField 32 n (BitVec.allOnes (32 - n)) = p &&& bitField 32 n (BitVec.allOnes (32 - n)) ↔
      w.toNat / 2 ^ n = p.toNat / 2 ^ n := by
  have width : n + (32 - n) = 32 := Nat.add_sub_of_le fits
  have high : ∀ v : Word, (v.extractLsb' n (32 - n)).toNat = v.toNat / 2 ^ n := by
    intro v
    have range : v.toNat / 2 ^ n < 2 ^ (32 - n) := Nat.div_lt_of_lt_mul (by rw [← pow_add, width]; exact v.isLt)
    rw [BitVec.extractLsb'_toNat, Nat.shiftRight_eq_div_pow, Nat.mod_eq_of_lt range]
  rw [← high, ← high, BitVec.toNat_inj, ← bitField_extractLsb', ← bitField_extractLsb']
  refine ⟨fun same => ?_, congrArg _⟩
  rw [← extractLsb'_bitField (w.extractLsb' n (32 - n)) width.le, same, extractLsb'_bitField _ width.le]

/-- A word matches a row with `n` operand bits when it is the row's pattern but for these bits. -/
theorem and_mask_eq_iff {n : Nat} (fits : n ≤ 32) {mask p : Word}
    (hm : bitField 32 n (BitVec.allOnes (32 - n)) = mask) (hp : p &&& mask = p) (w : Word) :
    w &&& mask = p ↔ w.toNat / 2 ^ n = p.toNat / 2 ^ n := by
  rw [← and_highMask_inj fits, hm, hp]

/-- The words that decode to no instruction, against the rows of R92 in their order. -/
theorem decode_ne_ok_iff_toNat (w : Word) :
    (∀ i, decode w ≠ .ok i) ↔
      w.toNat ≠ 0x00000000 ∧ w.toNat ≠ 0x01000000 ∧ w.toNat ≠ 0x02000000 ∧ w.toNat / 2 ^ 16 ≠ 0x1000 ∧
        w.toNat / 2 ^ 4 ≠ 0x1100000 ∧ w.toNat ≠ 0x12000000 ∧ w.toNat ≠ 0x13000000 ∧ w.toNat ≠ 0x20000000 ∧
        w.toNat ≠ 0x21000000 ∧ w.toNat ≠ 0x22000000 ∧ w.toNat / 2 ^ 16 ≠ 0x2300 := by
  have fixed : ∀ p : Word, w &&& 0xFFFFFFFF#32 = p ↔ w.toNat = p.toNat := by
    intro p
    rw [show w &&& 0xFFFFFFFF#32 = w from BitVec.and_allOnes, BitVec.toNat_inj]
  have txFrame : w &&& 0xFFFF0000#32 = 0x10000000#32 ↔ w.toNat / 2 ^ 16 = 0x1000 :=
    and_mask_eq_iff (n := 16) (by decide) (by decide) (by decide) w
  have txSymbol : w &&& 0xFFFFFFF0#32 = 0x11000000#32 ↔ w.toNat / 2 ^ 4 = 0x1100000 :=
    and_mask_eq_iff (n := 4) (by decide) (by decide) (by decide) w
  have rxSlip : w &&& 0xFFFF0000#32 = 0x23000000#32 ↔ w.toNat / 2 ^ 16 = 0x2300 :=
    and_mask_eq_iff (n := 16) (by decide) (by decide) (by decide) w
  rw [decode_ne_ok_iff]
  simp [opcodeRows, fixed, txFrame, txSymbol, rxSlip]

/-- The same words by their fields `OPC`, `RSV` and `OPND` (R91, R94). -/
theorem decode_ne_ok_iff_fields (w : Word) {opc rsv opnd : Nat} (hopc : opc = w.toNat / 2 ^ 24)
    (hrsv : rsv = w.toNat / 2 ^ 16 % 2 ^ 8) (hopnd : opnd = w.toNat % 2 ^ 16) :
    (∀ i, decode w ≠ .ok i) ↔
      rsv ≠ 0 ∨ (0x03 ≤ opc ∧ opc ≤ 0x0F) ∨ (0x14 ≤ opc ∧ opc ≤ 0x1F) ∨ 0x24 ≤ opc ∨
        (opc ≠ 0x10 ∧ opc ≠ 0x11 ∧ opc ≠ 0x23 ∧ opnd ≠ 0) ∨ (opc = 0x11 ∧ 0x10 ≤ opnd) := by
  rw [decode_ne_ok_iff_toNat]
  omega

/-! ## The statements -/

/-- Settles O4: each word is evaluated. -/
theorem wordsOfTheOpcodeMapDecode : Obligations.WordsOfTheOpcodeMapDecode := by
  unfold Obligations.WordsOfTheOpcodeMapDecode
  decide

/-- Settles O2: a word has the bits of the row it matches and its own operand, and the row's instruction encodes
both. -/
theorem encodingADecodedWordGivesTheWord : Obligations.EncodingADecodedWordGivesTheWord :=
  fun _ _ => wellFormed_and_encode_eq_of_decode

/-- Settles O1: an encoding matches the row that reads the instruction back, and four bytes in bus order make the
word. -/
theorem decodingAnEncodingGivesTheInstruction : Obligations.DecodingAnEncodingGivesTheInstruction :=
  fun _ wf => ⟨decode_encode wf, decodeBytes_bytesOfWord_append (decode_encode wf)⟩

/-- Settles O3: the rows as numbers, and the refusal of a write to `CMD` that decodes to none. -/
theorem illegalWordsAreRefusedWithNoOtherEffect : Obligations.IllegalWordsAreRefusedWithNoOtherEffect :=
  fun w => ⟨decode_ne_ok_iff_fields w rfl rfl rfl, Machine.cmdWrite_of_decode_ne_ok⟩

end Sys2Proof
end

section
/-! SUPPORT. The tone synthesizer's arithmetic (40_tone_synthesizer.md R112 to R114): the phase in closed form and its
width, the table index as a nearest integer, and the range and rounding of a scaled table value. -/

namespace Sys2Proof.Machine

/-! ## The phase accumulator -/

theorem phaseStep_lt {fs : Nat} (pos : 0 < 256 * fs) (phase freq : Nat) : phaseStep fs phase freq < 256 * fs :=
  Nat.mod_lt _ pos

/-- The phase after `j` samples in closed form (R112). -/
theorem iterate_phaseStep {fs phase : Nat} (h : phase < 256 * fs) (freq j : Nat) :
    iterate (fun p => phaseStep fs p freq) j phase = (phase + 256 * freq * j) % (256 * fs) := by
  induction j generalizing phase with
  | zero => exact (Nat.mod_eq_of_lt h).symm
  | succ j ih =>
    rw [iterate, ih (phaseStep_lt (by omega) _ _), phaseStep, Nat.mod_add_mod, Nat.mul_succ, Nat.add_assoc,
      Nat.add_comm (256 * freq)]

/-- Bit 5 of the mask: in a configuration that passes every check each tone is below the sample rate
(45_control_commands.md R237). -/
theorem Plan.freq_lt_of_checks_eq_zero {p : Plan} (h : p.checks = 0#8) {k : Nat} (hk : k < p.m) : p.freq k < p.fs := by
  have nyquist : p.checks.getLsbD 5 = p.failsNyquist := by simp [Plan.checks]
  rw [h] at nyquist
  have highest : ¬ (p.fs : Int) ≤ 2 * ((p.base.toNat : Int) + ((p.m : Int) - 1) * (p.step.toNat : Int)) :=
    of_decide_eq_false nyquist.symm
  have below : (k : Int) * p.step.toNat ≤ ((p.m : Int) - 1) * p.step.toNat :=
    mul_le_mul_of_nonneg_right (by omega) (Int.natCast_nonneg _)
  have tone : (p.freq k : Int) = p.base.toNat + k * p.step.toNat := by simp [Plan.freq]
  omega

/-- Settles O29: the closed form by induction on the samples; a legal plan's rate has 24 bits and its tones lie below
the rate. -/
theorem phaseAccumulatorIsExact : Obligations.PhaseAccumulatorIsExact := by
  unfold Obligations.PhaseAccumulatorIsExact
  refine ⟨fun fs f p0 j h => ⟨iterate_phaseStep h f j, phaseStep_lt (by omega) _ _⟩, fun p phase k legal h hk => ?_⟩
  have rate : p.fs < 2 ^ 24 := p.sampleRate.isLt
  have tone := Plan.freq_lt_of_checks_eq_zero legal hk
  omega

/-! ## The table index -/

/-- Settles O30: the quotient by `2 FS` is the integer asked for. -/
theorem tableIndexIsTheNearestEntry : Obligations.TableIndexIsTheNearestEntry := by
  unfold Obligations.TableIndexIsTheNearestEntry
  refine ⟨fun fs phase pos => ⟨(2 * phase + fs) / (2 * fs), rfl, Nat.mul_div_le _ _, ?_⟩, by decide⟩
  exact Nat.lt_mul_div_succ _ (Nat.mul_pos Nat.two_pos pos)

/-! ## The sample value -/

/-- A saturated value is a sample's value. -/
theorem toInt_ofInt_sat16 (v : Int) : (BitVec.ofInt 16 (sat16 v)).toInt = sat16 v := by
  refine BitVec.toInt_ofInt_eq_self (by decide) ?_ ?_ <;> unfold sat16 <;> omega

theorem synthSample_toInt (p : Plan) (phase : Nat) :
    (synthSample p phase).toInt = scaledSample p.amplitude (lutAt (lutIndex p.fs phase)) :=
  toInt_ofInt_sat16 _

theorem scaledSample_eq (amplitude : BitVec 16) (v : Int) :
    scaledSample amplitude v = min 32767 (max (-32768) ((v * amplitude.toNat + 16384) / 32768)) := rfl

/-- An amplitude of at most `0x8000` does not enlarge a value. -/
theorem natAbs_mul_amplitude_le {v : Int} (hv : v.natAbs ≤ 32767) {amplitude : Nat} (h : amplitude ≤ 0x8000) :
    (v * amplitude).natAbs ≤ 32767 * 32768 := by
  rw [Int.natAbs_mul]
  exact Nat.mul_le_mul hv h

/-- Settles O31: up to `AMP = 0x8000` the scaled value is inside the 16-bit range, so only the rounding acts. -/
theorem samplesAreScaledAndRounded : Obligations.SamplesAreScaledAndRounded := by
  unfold Obligations.SamplesAreScaledAndRounded
  refine ⟨fun p phase => ?_, by decide, by decide, by decide, by decide, fun v => ?_⟩
  · rw [synthSample_toInt, scaledSample_eq]
    refine ⟨rfl, fun small => ?_⟩
    have product := natAbs_mul_amplitude_le (lutAt_natAbs_le (lutIndex p.fs phase)) small
    omega
  · simp [scaledSample_eq]

end Sys2Proof.Machine
end

section
/-! SUPPORT. A transmission to the output port sample by sample (40_tone_synthesizer.md R115, R116, R121,
44_send_path.md R219): the samples an engine still owes, how one transmit step consumes the first of them, and the
whole transmission by induction on them. -/

namespace Sys2Proof.Machine

/-! ## The rest of a block -/

/-- The next `n` samples of a block whose next sample has phase `phase`. -/
def TxItem.samples (p : Plan) (phase n : Nat) : TxItem → List Sample
  | .tone k => toneSamples p k phase n
  | .silent => List.replicate n 0#16

/-- The phase after `n` more samples of a block. -/
def TxItem.phaseAfter (p : Plan) (phase n : Nat) : TxItem → Nat
  | .tone k => iterate (fun q => phaseStep p.fs q (p.freq k)) n phase
  | .silent => phase

@[simp] theorem TxItem.samples_zero (p : Plan) (phase : Nat) (item : TxItem) : item.samples p phase 0 = [] := by
  cases item <;> rfl

@[simp] theorem TxItem.phaseAfter_zero (p : Plan) (phase : Nat) (item : TxItem) : item.phaseAfter p phase 0 = phase := by
  cases item <;> rfl

theorem length_toneSamples (p : Plan) (k phase n : Nat) : (toneSamples p k phase n).length = n := by
  induction n generalizing phase with
  | zero => rfl
  | succ n ih => rw [toneSamples, List.length_cons, ih]

/-- A whole block is `N` samples from its first (R115). -/
theorem renderItem_eq_samples (p : Plan) (phase : Nat) (item : TxItem) :
    renderItem p phase item = item.samples p phase p.n := by
  cases item <;> rfl

theorem itemPhase_eq_phaseAfter {p : Plan} {phase : Nat} (h : phase < 256 * p.fs) (item : TxItem) :
    itemPhase p phase item = item.phaseAfter p phase p.n := by
  cases item with
  | tone k => exact (iterate_phaseStep h _ _).symm
  | silent => rfl

theorem length_renderItem (p : Plan) (phase : Nat) (item : TxItem) : (renderItem p phase item).length = p.n := by
  cases item with
  | tone k => exact length_toneSamples p k phase p.n
  | silent => exact List.length_replicate

theorem length_renderItems (p : Plan) (phaseCont : Bool) (phase : Nat) (items : List TxItem) :
    (renderItems p phaseCont phase items).length = items.length * p.n := by
  induction items generalizing phase with
  | nil => simp [renderItems]
  | cons item rest ih =>
    rw [renderItems, List.length_append, length_renderItem, ih, List.length_cons, Nat.succ_mul, Nat.add_comm]

/-- The first of the remaining samples is the one the engine produces next, and the others follow from the phase that
leaves (R121). -/
theorem samples_txItem_succ (s : State) (n : Nat) :
    (txItem s).samples s.active (txPhase s) (n + 1) =
      txSample s :: (txItem s).samples s.active (txPhaseNext s) n := by
  unfold txSample txPhaseNext
  cases txItem s <;> rfl

theorem phaseAfter_txItem_succ (s : State) (n : Nat) :
    (txItem s).phaseAfter s.active (txPhase s) (n + 1) = (txItem s).phaseAfter s.active (txPhaseNext s) n := by
  unfold txPhaseNext
  cases txItem s <;> rfl

/-! ## What the engine still owes -/

/-- The samples an engine has still to produce: the rest of its block, then the blocks after it. -/
def txRemaining (s : State) : List Sample :=
  if s.tx.busy then
    (txItem s).samples s.active (txPhase s) (s.active.n - s.tx.sampleIdx)
      ++ renderItems s.active s.phaseCont
          ((txItem s).phaseAfter s.active (txPhase s) (s.active.n - s.tx.sampleIdx))
          (s.tx.items.drop (s.tx.blockIdx + 1))
  else []

theorem txRemaining_of_idle {s : State} (idle : s.tx.busy = false) : txRemaining s = [] := by
  simp [txRemaining, idle]

theorem txRemaining_of_busy {s : State} (busy : s.tx.busy = true) :
    txRemaining s =
      (txItem s).samples s.active (txPhase s) (s.active.n - s.tx.sampleIdx)
        ++ renderItems s.active s.phaseCont
            ((txItem s).phaseAfter s.active (txPhase s) (s.active.n - s.tx.sampleIdx))
            (s.tx.items.drop (s.tx.blockIdx + 1)) :=
  if_pos busy

/-- The first sample of a block starts at the block's phase (R116). -/
theorem txPhase_of_first {s : State} (first : s.tx.sampleIdx = 0) : txPhase s = blockPhase s.phaseCont s.tx.phase := by
  unfold txPhase blockPhase
  cases s.phaseCont <;> simp [first]

theorem txPhase_of_not_first {s : State} (inside : s.tx.sampleIdx ≠ 0) : txPhase s = s.tx.phase :=
  if_neg fun h => inside h.1

/-- The phase the next sample uses is below the modulus (R112). -/
theorem txPhase_lt {s : State} (h : s.Invariant) : txPhase s < 256 * s.active.fs := by
  obtain ⟨phase, -⟩ := h.tx
  unfold txPhase
  split
  · exact Nat.mul_pos (by decide) h.fs_pos
  · exact phase

/-- At the first sample of a block the engine owes the blocks from that one on. -/
theorem txRemaining_of_first {s : State} (h : s.Invariant) (busy : s.tx.busy = true) (first : s.tx.sampleIdx = 0) :
    txRemaining s = renderItems s.active s.phaseCont s.tx.phase (s.tx.items.drop s.tx.blockIdx) := by
  obtain ⟨-, -, -, running, -⟩ := h.tx
  obtain ⟨block, -⟩ := running busy
  have item : txItem s = s.tx.items[s.tx.blockIdx] := List.getD_eq_getElem _ _ block
  rw [txRemaining_of_busy busy, List.drop_eq_getElem_cons block, renderItems, ← item, ← txPhase_of_first first,
    renderItem_eq_samples, itemPhase_eq_phaseAfter (txPhase_lt h), first, Nat.sub_zero]

/-! ## One transmit step -/

/-- The state in which a transmit step to the output port has emitted its sample and not yet moved on (R121). -/
def txEmitted (s : State) : State :=
  { s with tx := { s.tx with phase := txPhaseNext s }, txo := s.txo ++ [txSample s] }

theorem txStep_of_output {s : State} (out : s.loopback = false) : txStep s = txAdvance (txEmitted s) := by
  simp [txStep, out, emit, txEmitted]

/-- `t` is `s` after the output side has accepted the samples `xs`, with the engine and `TX_DONE` moved on. -/
structure Emitted (xs : List Sample) (s t : State) : Prop where
  txo : t.txo = s.txo ++ xs
  frame : t = { s with txo := t.txo, tx := t.tx, flags := t.flags }

/-- Transitivity. -/
theorem Emitted.cons {x : Sample} {xs : List Sample} {s t u : State} (h : Emitted [x] s t) (h' : Emitted xs t u) :
    Emitted (x :: xs) s u where
  txo := by rw [h'.txo, h.txo, List.append_assoc, List.singleton_append]
  frame := h'.frame.trans (congrArg (fun z : State => { z with txo := u.txo, tx := u.tx, flags := u.flags }) h.frame)

/-- A transmission that goes on, its flags untouched, or one that has ended with `TX_DONE` set (R121). -/
def GoesOnOrIsDone (s t : State) : Prop :=
  (t.tx.busy = true ∧ t.flags = s.flags) ∨
    (t.tx = { TxEngine.reset with phase := t.tx.phase } ∧ t.flags = { s.flags with txDone := true })

/-- A transmit step to the output port emits its sample and nothing else (R121). -/
theorem txStep_emitted {s : State} (busy : s.tx.busy = true) (out : s.loopback = false) :
    Emitted [txSample s] s (txStep s) ∧ GoesOnOrIsDone s (txStep s) := by
  rw [txStep_of_output out]
  obtain ⟨-, e⟩ | ⟨-, -, e⟩ | ⟨-, -, e⟩ := txAdvance_cases (txEmitted s) <;> rw [e]
  · exact ⟨⟨rfl, rfl⟩, .inl ⟨busy, rfl⟩⟩
  · exact ⟨⟨rfl, rfl⟩, .inl ⟨busy, rfl⟩⟩
  · exact ⟨⟨rfl, rfl⟩, .inr ⟨rfl, rfl⟩⟩

/-- The sample a transmit step emits is the first the engine owes, and it then owes the others. -/
theorem txRemaining_eq_cons {s : State} (h : s.Invariant) (busy : s.tx.busy = true) (out : s.loopback = false) :
    txRemaining s = txSample s :: txRemaining (txStep s) := by
  obtain ⟨-, -, -, running, -⟩ := h.tx
  obtain ⟨block, sample⟩ := running busy
  have kept := h.txStep busy
  obtain ⟨left, hleft⟩ := Nat.exists_eq_succ_of_ne_zero (Nat.sub_ne_zero_of_lt sample)
  rw [txRemaining_of_busy busy, hleft, samples_txItem_succ, phaseAfter_txItem_succ, List.cons_append]
  congr 1
  rw [txStep_of_output out] at kept ⊢
  obtain ⟨-, e⟩ | ⟨last, -, e⟩ | ⟨last, ended, e⟩ := txAdvance_cases (txEmitted s) <;> rw [e] at kept ⊢
  · -- inside a block
    have left' : s.active.n - (s.tx.sampleIdx + 1) = left := by omega
    rw [txRemaining_of_busy (by exact busy), txPhase_of_not_first (by exact Nat.succ_ne_zero _)]
    simp only [txEmitted, left']
    rfl
  · -- the last sample of a block, with another block to follow
    have complete : left = 0 := by change s.tx.sampleIdx + 1 = s.active.n at last; omega
    rw [txRemaining_of_first kept busy rfl, complete, TxItem.samples_zero, TxItem.phaseAfter_zero]
    rfl
  · -- the last sample of the transmission
    have complete : left = 0 := by change s.tx.sampleIdx + 1 = s.active.n at last; omega
    change s.tx.blockIdx + 1 = s.tx.items.length at ended
    rw [txRemaining_of_idle rfl, complete, TxItem.samples_zero, ended, List.drop_length]
    rfl

/-! ## The whole transmission -/

theorem txPort_of_output {s : State} (busy : s.tx.busy = true) (out : s.loopback = false) :
    txPort s = some (txSample s) := by
  simp [txPort, busy, out]

theorem txPort_of_idle {s : State} (idle : s.tx.busy = false) : txPort s = none := by simp [txPort, idle]

/-- `m` is a state in the middle of a transmission to the output port that began in `s` and emits `xs`: the output has
the first `i` of them and the port holds the next. -/
structure Transmitting (xs : List Sample) (i : Nat) (s m : State) : Prop where
  busy : m.tx.busy = true
  enabled : txStepEnabled m = true
  flags : m.flags = s.flags
  port : txPort m = xs[i]?
  txo : m.txo = s.txo ++ xs.take i

/-- A transmission to the output port that has emitted `xs` and is over. -/
structure Transmitted (xs : List Sample) (s u : State) : Prop extends Emitted xs s u where
  idle : u.tx = { TxEngine.reset with phase := u.tx.phase }
  flags : u.flags = { s.flags with txDone := true }

/-- An engine that owes `xs` emits them one per step and then is done. -/
theorem transmits {xs : List Sample} {s : State} (h : s.Invariant) (busy : s.tx.busy = true)
    (out : s.loopback = false) (owed : txRemaining s = xs) :
    (∀ i, i < xs.length → Transmitting xs i s (iterate txStep i s)) ∧
      Transmitted xs s (iterate txStep xs.length s) := by
  induction xs generalizing s with
  | nil => simp [txRemaining_eq_cons h busy out] at owed
  | cons x xs ih =>
    obtain ⟨rfl, rest⟩ := List.cons.inj ((txRemaining_eq_cons h busy out).symm.trans owed)
    have now : Transmitting (txSample s :: xs) 0 s s :=
      { busy, enabled := by simp [txStepEnabled, busy, out], flags := rfl, port := txPort_of_output busy out,
        txo := (List.append_nil _).symm }
    obtain ⟨emitted, ⟨on, flags⟩ | ⟨idle, flags⟩⟩ := txStep_emitted busy out
    · have out' : (txStep s).loopback = false := by rw [State.loopback, txStep_ctrl]; exact out
      obtain ⟨during, after⟩ := ih (h.txStep busy) on out' rest
      refine ⟨fun i hi => ?_, emitted.cons after.toEmitted, after.idle, after.flags.trans (by rw [flags])⟩
      cases i with
      | zero => exact now
      | succ i =>
        have later := during i (Nat.lt_of_succ_lt_succ hi)
        exact { busy := later.busy, enabled := later.enabled, flags := later.flags.trans flags, port := later.port,
                txo := by rw [iterate, later.txo, emitted.txo, List.append_assoc]; rfl }
    · obtain rfl : xs = [] := rest.symm.trans (txRemaining_of_idle (by rw [idle]; rfl))
      refine ⟨fun i hi => ?_, emitted, idle, flags⟩
      obtain rfl : i = 0 := Nat.lt_one_iff.1 hi
      exact now

/-- The port is valid exactly while a transmission out of loopback is in progress, and holds the next sample (R121,
R219). -/
theorem txPort_eq_some_iff (s : State) (x : Sample) :
    txPort s = some x ↔ s.tx.busy = true ∧ s.loopback = false ∧ txSample s = x := by
  simp [txPort, and_assoc]

theorem runEvent_txStep_of_enabled {s : State} (enabled : txStepEnabled s = true) :
    runEvent .txStep s = .next (txStep s) := by
  simp [runEvent, enabled]

/-- Settles O32: at the start an engine owes all its blocks, and each step emits the first sample it owes. -/
theorem aTransmissionEmitsItsBlocks : Obligations.ATransmissionEmitsItsBlocks := by
  unfold Obligations.ATransmissionEmitsItsBlocks
  refine ⟨fun s inv busy block sample out => ?_, fun s => ⟨?_, fun x hx => ?_⟩⟩
  · have h := (invariant_iff s).2 inv
    have owed : txRemaining s = renderItems s.active s.phaseCont s.tx.phase s.tx.items := by
      rw [txRemaining_of_first h busy sample, block, List.drop_zero]
    have length := length_renderItems s.active s.phaseCont s.tx.phase s.tx.items
    obtain ⟨during, after⟩ := transmits h busy out owed
    rw [length] at during after
    refine ⟨fun i hi => ?_, after.txo, length, txPort_of_idle (by rw [after.idle]; rfl), after.idle, after.flags,
      after.frame⟩
    have m := during i hi
    exact ⟨m.busy, m.enabled, m.flags, m.port, m.txo⟩
  · simp [txPort_eq_some_iff]
  · obtain ⟨busy, out, rfl⟩ := (txPort_eq_some_iff s x).1 hx
    have enabled : txStepEnabled s = true := by simp [txStepEnabled, busy, out]
    exact ⟨txStep s, runEvent_txStep_of_enabled enabled, (txStep_emitted busy out).1.txo⟩

end Sys2Proof.Machine
end

section
/-! SUPPORT. TX_SYMBOL and TX_SILENCE (40_tone_synthesizer.md R123, R124): what accepting a transmission changes, in half
duplex with a receiver to pause and otherwise (44_send_path.md R212, R213). -/

namespace Sys2Proof.Machine

/-! ## Accepting a transmission -/

/-- `t` differs from `s` at most in the engine and in what a half-duplex pause may change. -/
structure AcceptFrame (s t : State) : Prop where
  equation : t = { s with tx := t.tx, asm := t.asm, dec := t.dec, rxFailCount := t.rxFailCount }
  slipRemain : t.asm.slipRemain = s.asm.slipRemain

theorem pauseEnter_acceptFrame (s : State) : AcceptFrame s (pauseEnter s) := by
  obtain ⟨-, e⟩ | ⟨-, e⟩ | ⟨-, -, e⟩ := pauseEnter_cases s <;> rw [e] <;> exact ⟨rfl, rfl⟩

theorem txAccept_of_not_paused {s : State} (unpaused : (s.rxRun && (!s.duplex && !s.loopback)) = false)
    (items : List TxItem) : txAccept items s = { s with tx := (txAccept items s).tx } := by
  rw [txAccept_tx]
  exact if_neg (by simp [unpaused])

theorem txAccept_acceptFrame (items : List TxItem) (s : State) : AcceptFrame s (txAccept items s) := by
  unfold txAccept
  dsimp only
  split
  · obtain ⟨frame, slip⟩ := pauseEnter_acceptFrame
      { s with tx := { s.tx with items, blockIdx := 0, sampleIdx := 0, busy := true, half := !s.duplex && !s.loopback } }
    exact ⟨frame, slip⟩
  · exact ⟨rfl, rfl⟩

/-- The registers an accepted transmission can change: the engine's progress, and the decoder's in a pause. -/
theorem AcceptFrame.regsKept {s t : State} (h : AcceptFrame s t) :
    RegsKept [.status, .txStatus, .rxStatus, .rxFailCount] s t := by
  intro r unlisted
  cases r
  case status | txStatus | rxStatus | rxFailCount => exact absurd (by decide) unlisted
  case slipRemain => simp only [regRead, h.slipRemain]
  all_goals rw [h.equation]; rfl

/-- `TX_STATUS` after acceptance of one block (10_state.md R49). -/
theorem txStatus_txAccept_singleton (item : TxItem) (s : State) : regRead (txAccept [item] s) .txStatus = 1#32 := by
  simp only [regRead, State.txStatusWord, txAccept_tx, if_true, List.length_singleton]
  decide

/-! ## The two commands -/

theorem exec_txSymbol_accepted {s : State} {sym : Nat} (idle : s.tx.busy = false) (valid : s.cfgValid = true)
    (below : sym < s.active.m) : exec (.txSymbol sym) s = .next (txAccept [.tone sym] s) := by
  simp [exec, execTxSymbol, idle, valid, below]

theorem exec_txSilence_accepted {s : State} (idle : s.tx.busy = false) (valid : s.cfgValid = true) :
    exec .txSilence s = .next (txAccept [.silent] s) := by
  simp [exec, execTxSilence, idle, valid]

/-- Settles O13: both commands accept the list of their one block. -/
theorem txSymbolAndTxSilenceStartOneBlock : Obligations.TxSymbolAndTxSilenceStartOneBlock := by
  unfold Obligations.TxSymbolAndTxSilenceStartOneBlock
  intro s i item idle valid command
  have accepted : exec i s = .next (txAccept [item] s) := by
    obtain ⟨sym, rfl, rfl, below⟩ | ⟨rfl, rfl⟩ := command
    · exact exec_txSymbol_accepted idle valid below
    · exact exec_txSilence_accepted idle valid
  have frame := txAccept_acceptFrame [item] s
  refine ⟨txAccept [item] s, accepted, txAccept_tx [item] s, txStatus_txAccept_singleton item s, fun unpaused => ?_,
    frame.equation, frame.regsKept, fun a => by rw [txAccept_mem]⟩
  rw [txAccept_tx] at unpaused
  exact txAccept_of_not_paused unpaused [item]

end Sys2Proof.Machine
end

section
/-! SUPPORT. The bank fed sample by sample against the detector as a function of one block (41_frequency_detector.md
R132, R138, R140): what the samples inside a block do, what the last one does, and a whole block. -/

namespace Sys2Proof.Machine

/-! ## The bank over a list of samples -/

theorem Assembler.accumulate_concat (p : Plan) (a : Assembler) (xs : List Sample) (x : Sample) :
    a.accumulate p (xs ++ [x]) = (a.accumulate p xs).laneUpdate p x := List.foldl_concat ..

theorem Assembler.accumulate_slipRemain (p : Plan) (a : Assembler) (xs : List Sample) :
    (a.accumulate p xs).slipRemain = a.slipRemain := by
  induction xs using List.reverseRecOn with
  | nil => rfl
  | append_singleton xs x ih => rw [accumulate_concat]; exact ih

theorem assembleAll_concat (xs : List Sample) (x : Sample) (s : State) :
    assembleAll (xs ++ [x]) s = assemble x (assembleAll xs s) := List.foldl_concat ..

/-! ## Inside a block and at its end -/

section
variable {s : State} (slip : s.asm.slipRemain = 0#16)
include slip

/-- A sample that does not complete the block touches nothing but the bank (43_capture_pipeline.md R190). -/
theorem assemble_of_inside (inside : s.asm.cnt + 1 ≠ s.active.n) (x : Sample) :
    assemble x s = { s with asm := { s.asm.laneUpdate s.active x with cnt := s.asm.cnt + 1 } } := by
  obtain ⟨slipping, -⟩ | ⟨-, -, e⟩ | ⟨-, last, -⟩ := assemble_cases x s
  · exact absurd slip slipping
  · exact e
  · exact absurd last inside

/-- Samples that do not complete the block are accumulated by the bank and counted. -/
theorem assembleAll_of_inside (xs : List Sample) (inside : s.asm.cnt + xs.length < s.active.n) :
    assembleAll xs s = { s with asm := { s.asm.accumulate s.active xs with cnt := s.asm.cnt + xs.length } } := by
  induction xs using List.reverseRecOn with
  | nil => rfl
  | append_singleton xs x ih =>
    rw [List.length_append, List.length_singleton] at inside ⊢
    have accumulated := ih (by omega)
    rw [assembleAll_concat, accumulated, assemble_of_inside, Assembler.accumulate_concat]
    · rfl
    · exact (Assembler.accumulate_slipRemain ..).trans slip
    · exact Nat.ne_of_lt inside

/-- What the end of a block does once it is decided as `d`: the registers are written, the bank is cleared and the
decoder is fed (R138). -/
def endBlockAs (d : Decision) (s : State) : State :=
  decoderFeed d.kind d.k1
    { s with
      asm := Assembler.reset, det := d.registers, blockCount := s.blockCount + 1#32,
      flags := { s.flags with detValid := true } }

/-- The last sample of a block ends it with the decision of the bank it completes. -/
theorem assemble_of_last (last : s.asm.cnt + 1 = s.active.n) (x : Sample) :
    assemble x s = endBlockAs ((s.asm.laneUpdate s.active x).decision s.active) s := by
  obtain ⟨slipping, -⟩ | ⟨-, inside, -⟩ | ⟨-, -, e⟩ := assemble_cases x s
  · exact absurd slip slipping
  · exact absurd last inside
  · have empty : (s.asm.laneUpdate s.active x).cleared = Assembler.reset :=
      congrArg (fun r => { Assembler.reset with slipRemain := r }) slip
    rw [e, endBlockAs, ← empty]
    rfl

/-! ## A whole block -/

/-- The samples that complete a block are decided together. -/
theorem assembleAll_of_complete {xs : List Sample} (nonempty : xs ≠ [])
    (complete : s.asm.cnt + xs.length = s.active.n) :
    assembleAll xs s = endBlockAs ((s.asm.accumulate s.active xs).decision s.active) s := by
  obtain ⟨ys, y, rfl⟩ := (List.eq_nil_or_concat' xs).resolve_left nonempty
  rw [List.length_append, List.length_singleton] at complete
  rw [assembleAll_concat, assembleAll_of_inside slip ys (by omega), assemble_of_last _ complete,
    Assembler.accumulate_concat]
  · rfl
  · exact (Assembler.accumulate_slipRemain ..).trans slip

end

/-- Settles O39: the samples before the last one accumulate in the bank, and the last one ends the block with the
decision of all of them. -/
theorem wholeBlocksAreDecidedAsDetectBlock : Obligations.WholeBlocksAreDecidedAsDetectBlock := by
  unfold Obligations.WholeBlocksAreDecidedAsDetectBlock
  intro s xs empty length pos
  have slip : s.asm.slipRemain = 0#16 := by rw [empty]; rfl
  have cnt : s.asm.cnt = 0 := by rw [empty]; rfl
  refine ⟨?_, fun i hi => ?_⟩
  · rw [assembleAll_of_complete slip (List.length_pos_iff.1 (by omega)) (by omega), detectBlock, ← empty, endBlockAs,
      ← empty]
  · have short : (xs.take i).length = i := List.length_take_of_le (by omega)
    rw [assembleAll_of_inside slip _ (by omega), cnt, short, Nat.zero_add]
    exact ⟨rfl, rfl⟩

end Sys2Proof.Machine
end

section
/-! SUPPORT. The decision of a block from its energies (41_frequency_detector.md R134 to R137): the largest and the
second largest energy, and the ambiguity test as a comparison of magnitudes. -/

namespace Sys2Proof.Machine

/-! ## The largest energy -/

theorem maxOf_mem_and_le {es : List Nat} (nonempty : es ≠ []) : maxOf es ∈ es ∧ ∀ e ∈ es, e ≤ maxOf es := by
  have folded : maxOf es = es.max?.getD 0 := List.foldl_max.trans (Nat.zero_max _)
  obtain ⟨m, hm⟩ := Option.ne_none_iff_exists'.1 (mt List.max?_eq_none_iff.1 nonempty)
  rw [folded, hm]
  exact List.max?_eq_some_iff.1 hm

theorem maxOf_le {es : List Nat} {b : Nat} (h : ∀ e ∈ es, e ≤ b) : maxOf es ≤ b := by
  cases es with
  | nil => exact Nat.zero_le b
  | cons e es => exact h _ (maxOf_mem_and_le (List.cons_ne_nil e es)).1

theorem secondEnergy_le {es : List Nat} {b : Nat} (h : ∀ e ∈ es, e ≤ b) : secondEnergy es ≤ b :=
  maxOf_le fun e he => h e (List.mem_of_mem_eraseIdx he)

/-! ## The strongest lane and the others -/

theorem strongest_lt_length {es : List Nat} (nonempty : es ≠ []) : strongest es < es.length :=
  List.idxOf_lt_length_of_mem (maxOf_mem_and_le nonempty).1

theorem getElem_strongest {es : List Nat} (h : strongest es < es.length) : es[strongest es] = maxOf es :=
  List.getElem_idxOf h

theorem getElem_ne_maxOf_of_lt_strongest {es : List Nat} {j : Nat} (hj : j < es.length) (before : j < strongest es) :
    es[j] ≠ maxOf es := ne_of_beq_false (List.not_of_lt_findIdx before)

/-- The energies of the lanes other than the strongest. -/
theorem mem_eraseIdx_strongest {es : List Nat} {e : Nat} :
    e ∈ es.eraseIdx (strongest es) ↔ ∃ j, ∃ h : j < es.length, j ≠ strongest es ∧ es[j] = e :=
  List.mem_eraseIdx_iff_getElem

/-- Settles O34: the strongest lane is the first index of the maximum, and the second energy is the maximum of the list
without it. -/
theorem strongestAndSecondEnergy : Obligations.StrongestAndSecondEnergy := by
  unfold Obligations.StrongestAndSecondEnergy
  intro es two
  have nonempty : es ≠ [] := List.length_pos_iff.1 (by omega)
  obtain ⟨-, greatest⟩ := maxOf_mem_and_le nonempty
  have others : es.eraseIdx (strongest es) ≠ [] := by
    rw [Ne, List.eraseIdx_eq_nil_iff, not_or]
    exact ⟨nonempty, fun one => by omega⟩
  obtain ⟨reached, second⟩ := maxOf_mem_and_le others
  have inside := strongest_lt_length nonempty
  have best : es.getD (strongest es) 0 = maxOf es := (List.getD_eq_getElem _ _ inside).trans (getElem_strongest inside)
  refine ⟨inside, best, fun j hj => ?_, fun j hj => ?_, fun j hj other => ?_, ?_⟩
  · rw [best, List.getD_eq_getElem _ _ hj]
    exact greatest _ (List.getElem_mem hj)
  · have hlen := hj.trans inside
    rw [best, List.getD_eq_getElem _ _ hlen]
    exact lt_of_le_of_ne (greatest _ (List.getElem_mem hlen)) (getElem_ne_maxOf_of_lt_strongest hlen hj)
  · rw [List.getD_eq_getElem _ _ hj]
    exact second _ (mem_eraseIdx_strongest.2 ⟨j, hj, other, rfl⟩)
  · obtain ⟨j, hj, other, e⟩ := mem_eraseIdx_strongest.1 reached
    exact ⟨j, hj, other, (List.getD_eq_getElem _ _ hj).trans e⟩

/-! ## The ambiguity test -/

/-- The integer test of R135 compares the magnitudes: both sides of R137 squared. -/
theorem ambiguous_iff (p : Plan) (e1 e2 : Nat) :
    (256 - p.tolerance.toNat) ^ 2 * e1 ≤ 65536 * e2 ↔
      (1 - (p.tolerance.toNat : ℝ) / 256) * Real.sqrt (e1 : ℝ) ≤ Real.sqrt (e2 : ℝ) := by
  have tol : p.tolerance.toNat ≤ 256 := p.tolerance.isLt.le
  have factor : (0 : ℝ) ≤ 1 - p.tolerance.toNat / 256 := by
    rw [sub_nonneg, div_le_one (by norm_num)]
    exact_mod_cast tol
  have scaled : (((256 - p.tolerance.toNat) ^ 2 * e1 : Nat) : ℝ) =
      65536 * ((1 - (p.tolerance.toNat : ℝ) / 256) ^ 2 * e1) := by
    push_cast [tol]
    ring
  rw [Real.le_sqrt (mul_nonneg factor (Real.sqrt_nonneg _)) (Nat.cast_nonneg _), mul_pow,
    Real.sq_sqrt (Nat.cast_nonneg _), ← Nat.cast_le (α := ℝ), scaled, Nat.cast_mul, Nat.cast_ofNat,
    mul_le_mul_iff_right₀ (by norm_num)]

/-- Equal energies are within every tolerance of each other. -/
theorem ambiguous_of_equal (p : Plan) (e : Nat) : (256 - p.tolerance.toNat) ^ 2 * e ≤ 65536 * e :=
  Nat.mul_le_mul_right e (Nat.pow_le_pow_left (Nat.sub_le 256 p.tolerance.toNat) 2)

/-- Settles O35: the three outcomes are the branches of the decision, and its second test is `ambiguous_iff`. -/
theorem ambiguityIsARelativeTolerance : Obligations.AmbiguityIsARelativeTolerance := by
  unfold Obligations.AmbiguityIsARelativeTolerance
  intro p power e1 e2
  rw [← not_le (b := Real.sqrt (e2 : ℝ)), ← ambiguous_iff, ← not_lt (b := p.noiseFloor.toNat)]
  have equal := ambiguous_of_equal p e1
  by_cases silent : power / 65536 < p.noiseFloor.toNat
  · simp [decideKind, silent]
  · by_cases ambiguous : (256 - p.tolerance.toNat) ^ 2 * e1 ≤ 65536 * e2 <;>
      simp [decideKind, silent, ambiguous, equal]

end Sys2Proof.Machine
end

section
/-! SUPPORT. The widths of the detector (41_frequency_detector.md R139): the sums, phases and energies of a bank in
range after at most `N` samples, and the result registers that hold a decision without loss (R138). -/

namespace Sys2Proof.Machine

/-- Bit 0 of the mask: a configuration that passes every check has 2 to 16 tones (45_control_commands.md R237). -/
theorem Plan.m_range_of_checks_eq_zero {p : Plan} (h : p.checks = 0#8) : 2 ≤ p.m ∧ p.m ≤ 16 := by
  have count : p.checks.getLsbD 0 = p.failsCount := by simp [Plan.checks]
  rw [h] at count
  obtain ⟨low, high⟩ := (Bool.or_eq_false_iff.1 count.symm).imp of_decide_eq_false of_decide_eq_false
  omega

/-! ## One lane -/

theorem product_natAbs_lt (x : Sample) (i : Nat) : (x.toInt * lutAt i).natAbs < 2 ^ 30 := by
  have product : (x.toInt * lutAt i).natAbs ≤ 32768 * 32767 := by
    rw [Int.natAbs_mul]
    exact Nat.mul_le_mul (sample_natAbs_le x) (lutAt_natAbs_le i)
  omega

/-- The sum of a longest block, before and after the shift. -/
theorem natAbs_and_asr_le {sum : Int} {cnt : Nat} (h : sum.natAbs ≤ laneBound cnt) (short : cnt ≤ 65535) :
    sum.natAbs < 2 ^ 46 ∧ (asr sum 15).natAbs ≤ 2 ^ 31 := by
  unfold laneBound at h
  unfold asr
  omega

theorem Lane.energy_le {l : Lane} (inPhase : (asr l.inPhase 15).natAbs ≤ 2 ^ 31)
    (quad : (asr l.quad 15).natAbs ≤ 2 ^ 31) : l.energy ≤ 2 ^ 63 := by
  have square : ∀ v : Int, v.natAbs ≤ 2 ^ 31 → v * v ≤ 2 ^ 62 := by
    intro v hv
    rw [← Int.natAbs_mul_self]
    exact_mod_cast Nat.mul_le_mul hv hv
  have := square _ inPhase
  have := square _ quad
  rw [Lane.energy, Int.toNat_le]
  omega

/-! ## The bank -/

section
variable {p : Plan} {a : Assembler} (h : a.SumsInRange p)
include h

/-- Used or not, no lane's sums pass the bound of the samples assembled. -/
theorem Assembler.SumsInRange.lane_natAbs_le (k : Fin 16) :
    a.lanes[k].inPhase.natAbs ≤ laneBound a.cnt ∧ a.lanes[k].quad.natAbs ≤ laneBound a.cnt := by
  have lane := h.2 k
  split at lane
  · exact lane.2
  · rw [lane]
    exact ⟨Nat.zero_le _, Nat.zero_le _⟩

theorem Assembler.SumsInRange.phase_lt (pos : 0 < p.fs) (k : Fin 16) : a.lanes[k].phase < 2 ^ 32 := by
  have rate : p.fs < 2 ^ 24 := p.sampleRate.isLt
  have lane := h.2 k
  split at lane
  · rw [lane.1]
    exact (Nat.mod_lt _ (by omega)).trans (by omega)
  · rw [lane]
    decide

theorem Assembler.SumsInRange.energy_le (short : a.cnt ≤ 65535) (k : Fin 16) : a.lanes[k].energy ≤ 2 ^ 63 := by
  obtain ⟨inPhase, quad⟩ := h.lane_natAbs_le k
  exact Lane.energy_le (natAbs_and_asr_le inPhase short).2 (natAbs_and_asr_le quad short).2

theorem Assembler.SumsInRange.energies_le (short : a.cnt ≤ 65535) : ∀ e ∈ a.energies p, e ≤ 2 ^ 63 := by
  intro e he
  obtain ⟨l, hl, rfl⟩ := List.mem_map.1 he
  obtain ⟨k, hk, rfl⟩ := Vector.getElem_of_mem (Vector.mem_toList_iff.1 (List.mem_of_mem_take hl))
  exact h.energy_le short ⟨k, hk⟩

end

/-! ## The invariant after one more sample -/

/-- The bank of a state of the invariant that has taken one more sample, its counter included. -/
def bankAfter (s : State) (x : Sample) : Assembler := { s.asm.laneUpdate s.active x with cnt := s.asm.cnt + 1 }

theorem State.Ranges.bankAfter {s : State} (h : s.Ranges) (x : Sample) :
    (bankAfter s x).SumsInRange s.active ∧ (bankAfter s x).cnt ≤ 65535 :=
  ⟨h.sums.laneUpdate x, h.cnt.trans_le (Nat.le_of_lt_succ s.active.samplesPerBit.isLt)⟩

/-- Settles O37: the invariant bounds the sums of one more sample, and a block has at most 65535 samples. -/
theorem detectorAccumulatorsFitTheirWidths : Obligations.DetectorAccumulatorsFitTheirWidths := by
  unfold Obligations.DetectorAccumulatorsFitTheirWidths
  intro s x inv
  have ranges := ((invariant_iff s).2 inv).toRanges
  obtain ⟨sums, short⟩ := ranges.bankAfter x
  have energies := sums.energies_le short
  have e1 : maxOf _ ≤ 2 ^ 63 := maxOf_le energies
  have e2 : secondEnergy _ ≤ 2 ^ 63 := secondEnergy_le energies
  have power : (bankAfter s x).power ≤ 65535 * 2 ^ 30 := sums.1.trans (Nat.mul_le_mul_right _ short)
  refine ⟨product_natAbs_lt x, fun k => ?_, power, power.trans_lt (by decide), ?_, ?_⟩
  · obtain ⟨inPhase, quad⟩ := sums.lane_natAbs_le k
    obtain ⟨inPhase, inPhaseShifted⟩ := natAbs_and_asr_le inPhase short
    obtain ⟨quad, quadShifted⟩ := natAbs_and_asr_le quad short
    exact ⟨inPhase, quad, inPhaseShifted, quadShifted, sums.phase_lt ranges.fs_pos k, sums.energy_le short k⟩
  · exact Nat.mul_le_mul_left 65536 e2
  · exact Nat.mul_le_mul (Nat.pow_le_pow_left (Nat.sub_le 256 _) 2) e1

/-! ## The result registers -/

theorem Assembler.length_energies (p : Plan) (a : Assembler) : (a.energies p).length = min p.m 16 := by
  simp [Assembler.energies]

/-- The strongest lane is one of the lanes in use. -/
theorem Assembler.decision_k1_lt {p : Plan} (legal : p.checks = 0#8) (a : Assembler) :
    (a.decision p).k1 < p.m ∧ p.m ≤ 16 := by
  obtain ⟨two, sixteen⟩ := Plan.m_range_of_checks_eq_zero legal
  have length := a.length_energies p
  have inside : strongest (a.energies p) < (a.energies p).length :=
    strongest_lt_length (List.length_pos_iff.1 (by omega))
  exact ⟨inside.trans_le (by omega), sixteen⟩

/-- A decision whose parts fit is read back from the registers without loss. -/
theorem Decision.registers_toNat {d : Decision} (k1 : d.k1 < 16) (e1 : d.e1 ≤ 2 ^ 63) (e2 : d.e2 ≤ 2 ^ 63) :
    d.registers.symbol.toNat = d.k1 ∧ d.registers.e1.toNat = d.e1 ∧ d.registers.e2.toNat = d.e2 :=
  ⟨Nat.mod_eq_of_lt k1, Nat.mod_eq_of_lt (by omega), Nat.mod_eq_of_lt (by omega)⟩

/-- Settles O36: the last sample ends the block as decided, the registers are wide enough for the decision, and feeding
the decoder is in the decoder's frame. -/
theorem theLastSampleEndsTheBlock : Obligations.TheLastSampleEndsTheBlock := by
  unfold Obligations.TheLastSampleEndsTheBlock
  intro s x inv slip last d u t
  have ranges := ((invariant_iff s).2 inv).toRanges
  obtain ⟨sums, short⟩ := ranges.bankAfter x
  have energies := sums.energies_le short
  obtain ⟨k1, sixteen⟩ := Assembler.decision_k1_lt ranges.cfg (bankAfter s x)
  obtain ⟨symbol, e1, e2⟩ := Decision.registers_toNat (d := d) (k1.trans_le sixteen) (maxOf_le energies)
    (secondEnergy_le energies)
  have fed : t = decoderFeed d.kind d.k1 u := assemble_of_last slip last x
  have frame : DecoderFrame u t := fed ▸ decoderFeed_frame d.kind d.k1 u
  have det : t.det = d.registers := frame.det_eq
  rw [det]
  exact ⟨fed, rfl, symbol, e1, e2, k1, frame.equation⟩

end Sys2Proof.Machine
end

section
/-! SUPPORT. The bank accumulated over a block as sums over its samples against the sine table (41_frequency_detector.md
R131, R132, R140). -/

namespace Sys2Proof.Machine

/-- A sum over the samples of a block and their places, extended by one sample. -/
theorem sum_getD_concat (term : Nat → Sample → Int) (xs : List Sample) (x : Sample) :
    ∑ j ∈ Finset.range (xs ++ [x]).length, term j ((xs ++ [x]).getD j 0#16) =
      (∑ j ∈ Finset.range xs.length, term j (xs.getD j 0#16)) + term xs.length x := by
  rw [List.length_append, List.length_singleton, Finset.sum_range_succ]
  congr 1
  · refine Finset.sum_congr rfl fun j hj => ?_
    rw [List.getD_append _ _ _ _ (Finset.mem_range.1 hj)]
  · rw [List.getD_append_right _ _ _ _ le_rfl, Nat.sub_self, List.getD_cons_zero]

/-! ## The lanes -/

/-- The reference phase of lane `k` at sample `j` in closed form (R132). -/
def Plan.referencePhase (p : Plan) (k j : Nat) : Nat := 256 * p.freq k * j % (256 * p.fs)

/-- Lane `k` after the samples of a block: its sums against the sine table a quarter period ahead, and at the phase. -/
def Lane.correlated (p : Plan) (k : Nat) (xs : List Sample) : Lane :=
  { phase := p.referencePhase k xs.length
    inPhase := ∑ j ∈ Finset.range xs.length,
      (xs.getD j 0#16).toInt * lutAt (lutIndex p.fs (p.referencePhase k j) + 64)
    quad := ∑ j ∈ Finset.range xs.length, (xs.getD j 0#16).toInt * lutAt (lutIndex p.fs (p.referencePhase k j)) }

theorem Lane.correlated_nil (p : Plan) (k : Nat) : Lane.correlated p k [] = Lane.zero := by
  simp [Lane.correlated, Plan.referencePhase, Lane.zero]

theorem Lane.correlated_concat (p : Plan) (k : Nat) (xs : List Sample) (x : Sample) :
    Lane.correlated p k (xs ++ [x]) = (Lane.correlated p k xs).update p k x := by
  have phase : p.referencePhase k (xs ++ [x]).length = phaseStep p.fs (p.referencePhase k xs.length) (p.freq k) := by
    rw [List.length_append]
    exact (phaseStep_exact ..).symm
  have sums := fun offset : Nat =>
    sum_getD_concat (fun j y => y.toInt * lutAt (lutIndex p.fs (p.referencePhase k j) + offset)) xs x
  simp only [Lane.correlated, Lane.update, Lane.mk.injEq]
  exact ⟨phase, sums 64, sums 0⟩

/-- A lane in use holds its correlation sums after any samples (R131). -/
theorem lanes_accumulate {p : Plan} {k : Nat} (used : k < p.m) (hk : k < 16) (xs : List Sample) :
    (Assembler.reset.accumulate p xs).lanes[k] = Lane.correlated p k xs := by
  induction xs using List.reverseRecOn with
  | nil => rw [Lane.correlated_nil]; exact Vector.getElem_replicate hk
  | append_singleton xs x ih =>
    rw [Lane.correlated_concat, ← ih, Assembler.accumulate_concat]
    simp [Assembler.laneUpdate, used]

/-- The energy of the correlation sums, as R140 writes it. -/
theorem Lane.energy_eq (l : Lane) : l.energy = ((l.inPhase / 32768) ^ 2 + (l.quad / 32768) ^ 2).toNat := by
  rw [sq, sq]
  rfl

theorem energies_accumulate {p : Plan} (fits : p.m ≤ 16) (xs : List Sample) :
    (Assembler.reset.accumulate p xs).energies p =
      (List.range p.m).map fun k => (Lane.correlated p k xs).energy := by
  refine List.ext_getElem (by simp [Assembler.energies, fits]) fun k _ hk => ?_
  have used : k < p.m := by simpa using hk
  simp [Assembler.energies, lanes_accumulate used (used.trans_le fits)]

/-! ## The power -/

theorem samplePower_cast (x : Sample) : (samplePower x : Int) = x.toInt ^ 2 := by
  rw [samplePower, Int.toNat_of_nonneg (mul_self_nonneg _), sq]

theorem power_accumulate (p : Plan) (xs : List Sample) :
    ((Assembler.reset.accumulate p xs).power : Int) =
      ∑ j ∈ Finset.range xs.length, (xs.getD j 0#16).toInt ^ 2 := by
  induction xs using List.reverseRecOn with
  | nil => rfl
  | append_singleton xs x ih =>
    rw [sum_getD_concat (fun _ y => y.toInt ^ 2), ← ih, ← samplePower_cast, Assembler.accumulate_concat]
    rfl

/-- Settles O33: the bank holds the correlation sums and the sum of squares, and the decision is made from them. -/
theorem detectorSumsOverTheBlock : Obligations.DetectorSumsOverTheBlock := by
  unfold Obligations.DetectorSumsOverTheBlock
  intro p xs fits phase sumI sumQ energy es power
  have energies : (Assembler.reset.accumulate p xs).energies p = es := by
    rw [energies_accumulate fits]
    exact List.map_congr_left fun k _ => Lane.energy_eq _
  have squares : (Assembler.reset.accumulate p xs).power = power :=
    (Int.toNat_natCast _).symm.trans (congrArg Int.toNat (power_accumulate p xs))
  rw [detectBlock, Assembler.decision, energies, squares]

end Sys2Proof.Machine
end

section
/-! SUPPORT. The CRC tells two payload bytes apart in every context (42_packet_codec.md R151, R152): each of its steps
is injective. -/

namespace Sys2Proof.Machine

theorem iterate_injective {α : Type} {f : α → α} (h : f.Injective) (n : Nat) : (iterate f n).Injective := by
  induction n with
  | zero => exact Function.injective_id
  | succ n ih => exact ih.comp h

theorem foldl_injective {α β : Type} {f : β → α → β} (h : ∀ v, Function.Injective (f · v)) (vs : List α) :
    Function.Injective (vs.foldl f) := by
  induction vs with
  | nil => exact Function.injective_id
  | cons v vs ih => exact ih.comp (h v)

/-- The generator has a constant term, so the bit shifted out stands in bit 0 of the result. -/
theorem getLsbD_zero_crcShift (c : BitVec 16) : (crcShift c).getLsbD 0 = c.getLsbD 15 := by
  unfold crcShift
  split
  next top => simp [top]
  next top => simpa using top

/-- Nothing is lost in a shift: bit 0 says whether the generator was added. -/
theorem crcShift_injective : crcShift.Injective := by
  intro c d h
  have top : c.getLsbD 15 = d.getLsbD 15 := by rw [← getLsbD_zero_crcShift, h, getLsbD_zero_crcShift]
  have shifted : c <<< 1 = d <<< 1 := by
    unfold crcShift at h
    rw [top] at h
    split at h
    · exact BitVec.xor_left_inj _ |>.1 h
    · exact h
  apply BitVec.eq_of_getLsbD_eq
  intro i hi
  by_cases last : i = 15
  · rw [last, top]
  · have bit := congrArg (·.getLsbD (i + 1)) shifted
    have inside : i + 1 < 16 := by omega
    simpa [inside, hi] using bit

theorem crcByte_injective_left (d : Byte) : Function.Injective (crcByte · d) :=
  fun _ _ h => BitVec.xor_left_inj _ |>.1 (iterate_injective crcShift_injective 8 h)

theorem crcByte_injective_right (c : BitVec 16) : (crcByte c).Injective := by
  intro d e h
  have placed := BitVec.xor_right_inj _ |>.1 (iterate_injective crcShift_injective 8 h)
  apply BitVec.eq_of_getLsbD_eq
  intro i hi
  have bit := congrArg (·.getLsbD (i + 8)) placed
  have inside : i + 8 < 16 := by omega
  simpa [inside] using bit

/-- Settles O40: the byte changes the remainder, and every later byte keeps two remainders apart. -/
theorem crcDetectsAChangedPayloadByte : Obligations.CrcDetectsAChangedPayloadByte := by
  unfold Obligations.CrcDetectsAChangedPayloadByte
  intro p q d e changed same
  unfold crc16 at same
  rw [List.foldl_append, List.foldl_append, List.foldl_cons, List.foldl_cons] at same
  exact changed (crcByte_injective_right _ (foldl_injective crcByte_injective_left q same))

end Sys2Proof.Machine
end

section
/-! SUPPORT. A frame's bits and symbols, and the decoder fed bit by bit (42_packet_codec.md R153, R154, R162, R163). -/

namespace Sys2Proof.Machine

/-! ## Bit lists and the numbers they write -/

theorem bitsValue_concat (bs : List Bool) (v : Bool) : bitsValue (bs ++ [v]) = 2 * bitsValue bs + v.toNat := by
  simp [bitsValue]

theorem bitsMsb_succ (n a : Nat) : bitsMsb (n + 1) a = bitsMsb n (a / 2) ++ [a.testBit 0] := by
  induction n with
  | zero => rfl
  | succ n ih => rw [bitsMsb, ih, bitsMsb, ← Nat.testBit_succ]; rfl

/-- One more bit shifted in from the right. -/
theorem bitsMsb_two_mul_add (n a : Nat) (v : Bool) : bitsMsb (n + 1) (2 * a + v.toNat) = bitsMsb n a ++ [v] := by
  have high : (2 * a + v.toNat) / 2 = a := by have := v.toNat_lt; omega
  have low : (2 * a + v.toNat).testBit 0 = v := by cases v <;> simp [Nat.testBit_zero]
  rw [bitsMsb_succ, high, low]

theorem bitsMsb_mod {n k : Nat} (h : n ≤ k) (a : Nat) : bitsMsb n (a % 2 ^ k) = bitsMsb n a := by
  induction n with
  | zero => rfl
  | succ n ih =>
    have inside : n < k := by omega
    rw [bitsMsb, bitsMsb, ih (by omega), Nat.testBit_mod_two_pow, decide_eq_true inside, Bool.true_and]

/-- The high bits, then the low ones. -/
theorem bitsMsb_add (m n a : Nat) : bitsMsb (m + n) a = bitsMsb m (a >>> n) ++ bitsMsb n a := by
  induction m with
  | zero => simp [bitsMsb]
  | succ m ih => rw [Nat.succ_add, bitsMsb, ih, bitsMsb, Nat.testBit_shiftRight, Nat.add_comm n m]; rfl

theorem drop_bitsMsb (m n a : Nat) : (bitsMsb (m + n) a).drop m = bitsMsb n a := by
  rw [bitsMsb_add, List.drop_left' (length_bitsMsb m _)]

/-- A bit list is the bits of the number it writes. -/
theorem bitsMsb_bitsValue (bs : List Bool) : bitsMsb bs.length (bitsValue bs) = bs := by
  induction bs using List.reverseRecOn with
  | nil => rfl
  | append_singleton bs v ih =>
    rw [bitsValue_concat, List.length_append, List.length_singleton, bitsMsb_two_mul_add, ih]

/-- A number that fits is the number its bits write. -/
theorem bitsValue_bitsMsb {n a : Nat} (h : a < 2 ^ n) : bitsValue (bitsMsb n a) = a := by
  induction n generalizing a with
  | zero => rw [Nat.lt_one_iff.1 h]; rfl
  | succ n ih =>
    rw [bitsMsb_succ, bitsValue_concat, ih (by rw [pow_succ] at h; omega), Nat.toNat_testBit]
    omega

theorem bitsMsb_toNat_inj {w : Nat} {c d : BitVec w} (h : bitsMsb w c.toNat = bitsMsb w d.toNat) : c = d := by
  apply BitVec.eq_of_toNat_eq
  rw [← bitsValue_bitsMsb c.isLt, h, bitsValue_bitsMsb d.isLt]

/-- The two bytes of a 16-bit field. -/
theorem bitsMsb_sixteen (c : BitVec 16) :
    bitsMsb 8 (c.extractLsb' 8 8).toNat ++ bitsMsb 8 (c.extractLsb' 0 8).toNat = bitsMsb 16 c.toNat := by
  rw [BitVec.extractLsb'_toNat, BitVec.extractLsb'_toNat, bitsMsb_mod le_rfl, bitsMsb_mod le_rfl, bitsMsb_add 8 8]
  rfl

theorem bitsValue_eq_sum (bs : List Bool) :
    bitsValue bs = ∑ t ∈ Finset.range bs.length, (bs.getD t false).toNat <<< (bs.length - 1 - t) := by
  induction bs using List.reverseRecOn with
  | nil => rfl
  | append_singleton bs v ih =>
    rw [bitsValue_concat, ih, List.length_append, List.length_singleton, Finset.sum_range_succ, Finset.mul_sum,
      List.getD_append_right _ _ _ _ le_rfl]
    congr 1
    · refine Finset.sum_congr rfl fun t ht => ?_
      have inside := Finset.mem_range.1 ht
      obtain ⟨k, hk⟩ : ∃ k, bs.length = t + k + 1 := ⟨bs.length - t - 1, by omega⟩
      rw [List.getD_append _ _ _ _ inside, hk, show t + k + 1 + 1 - 1 - t = k + 1 by omega,
        show t + k + 1 - 1 - t = k by omega, Nat.shiftLeft_succ]
    · simp

/-! ## The bits and symbols of a frame -/

/-- A frame up to its integrity field `c`, field by field (R153). -/
def bitsUpToCrc (a : Plan) (c : BitVec 16) (p : List Byte) : List Bool :=
  bitsMsb 8 a.startMarker.toNat ++ bitsMsb 8 p.length ++ bytesBits p ++ bitsMsb 16 c.toNat

theorem length_bitsUpToCrc (a : Plan) (c : BitVec 16) (p : List Byte) :
    (bitsUpToCrc a c p).length = 8 * (p.length + 4) := by
  simp [bitsUpToCrc]
  omega

/-- The bits of the frame of `p` with `c` in the integrity field. -/
theorem bytesBits_frame (a : Plan) (c : BitVec 16) {p : List Byte} (fits : p.length ≤ 255) :
    bytesBits ([a.startMarker, BitVec.ofNat 8 p.length] ++ p
        ++ [c.extractLsb' 8 8, c.extractLsb' 0 8, a.endMarker]) =
      bitsUpToCrc a c p ++ bitsMsb 8 a.endMarker.toNat := by
  have length : (BitVec.ofNat 8 p.length).toNat = p.length := Nat.mod_eq_of_lt (by omega)
  simp [bytesBits, bitsUpToCrc, length, ← bitsMsb_sixteen c]

/-- The groups, one by one. -/
theorem groupBits_eq_map (b n : Nat) (bs : List Bool) :
    groupBits b n bs = (List.range n).map fun j => bitsValue ((bs.drop (j * b)).take b) := by
  induction n generalizing bs with
  | zero => rfl
  | succ n ih =>
    rw [groupBits, ih, List.range_succ_eq_map, List.map_cons, List.map_map]
    simp [Function.comp_def, Nat.succ_mul, List.drop_drop, Nat.add_comm]

theorem take_groupBits {b i n : Nat} (h : i ≤ n) (bs : List Bool) :
    (groupBits b n bs).take i = groupBits b i bs := by
  rw [groupBits_eq_map, groupBits_eq_map, ← List.map_take, List.take_range, min_eq_left h]

theorem groupBits_append {b m : Nat} {bs : List Bool} (h : bs.length = m * b) (n : Nat) (cs : List Bool) :
    groupBits b (m + n) (bs ++ cs) = groupBits b m bs ++ groupBits b n cs := by
  induction m generalizing bs with
  | zero =>
    rw [List.length_eq_zero_iff.1 (h.trans (Nat.zero_mul b)), Nat.zero_add]; rfl
  | succ m ih =>
    have long : b ≤ bs.length := h ▸ Nat.le_mul_of_pos_left b (Nat.succ_pos m)
    rw [Nat.succ_add, groupBits, groupBits, List.take_append_of_le_length long, List.drop_append_of_le_length long,
      ih (by rw [List.length_drop, h, Nat.succ_mul, Nat.add_sub_cancel]), List.cons_append]

/-- Bits grouped into the symbols that carry them, as `frameSymbols` and `frameSymbolsWith` do (R154). -/
def symbolsOf (b : Nat) (bs : List Bool) : List Nat := groupBits b (bs.length / b) bs

theorem symbolsOf_append {b : Nat} {bs : List Bool} (h : b ∣ bs.length) (cs : List Bool) :
    symbolsOf b (bs ++ cs) = symbolsOf b bs ++ symbolsOf b cs := by
  rw [symbolsOf, List.length_append, Nat.add_div_of_dvd_right h,
    groupBits_append (Nat.div_mul_cancel h).symm]
  rfl

theorem frameSymbolsWith_eq (a : Plan) (b : Nat) (c : BitVec 16) {p : List Byte} (fits : p.length ≤ 255) :
    frameSymbolsWith a b c p = symbolsOf b (bitsUpToCrc a c p ++ bitsMsb 8 a.endMarker.toNat) :=
  congrArg (symbolsOf b) (bytesBits_frame a c fits)

/-- Settles O41: the bits by `bytesBits_frame`, the symbols by `groupBits_eq_map`. -/
theorem frameSymbolsAreTheGroupedFrameBits : Obligations.FrameSymbolsAreTheGroupedFrameBits := by
  unfold Obligations.FrameSymbolsAreTheGroupedFrameBits
  intro a b p hb fits bits
  have length : bits.length = 8 * (p.length + 5) := length_frameBits a p
  have symbols : frameSymbols a b p = groupBits b (8 * (p.length + 5) / b) bits := by rw [← length]; rfl
  refine ⟨bytesBits_frame a (crc16 p) fits, by rw [symbols, length_groupBits], fun j hj => ?_⟩
  have inside : j * b + b ≤ bits.length := by
    rw [length, ← Nat.succ_mul]
    exact (Nat.mul_le_mul_right b hj).trans (Nat.div_mul_le_self _ b)
  have group : ((bits.drop (j * b)).take b).length = b := by rw [List.length_take, List.length_drop]; omega
  rw [symbols, groupBits_eq_map, List.getElem?_map, List.getElem?_range hj, Option.map_some, bitsValue_eq_sum, group]
  congr 1
  refine Finset.sum_congr rfl fun t ht => ?_
  have := Finset.mem_range.1 ht
  simp [List.getD_eq_getElem?_getD, List.getElem?_drop, this]

end Sys2Proof.Machine
end

section
/-! SUPPORT. Outside SEEK_START the decoder shifts bits into a field and acts when the field is complete
(42_packet_codec.md R160, R163, R171). -/

namespace Sys2Proof.Machine

/-! ## Fields -/

/-- The bits of the field a decoder in this state reads, as R160 lists them; 0 where it reads none. -/
def RxState.fieldWidth : RxState → Nat
  | .readLen => 8
  | .readPayload => 8
  | .readCrc => 16
  | .seekEnd => 8
  | .seekStart => 0
  | .doneHold => 0

/-- What the decoder does with a complete field (R165 to R168). -/
def fieldDone (s : State) : State × BitOutcome :=
  match s.dec.rxState with
  | .readLen => lengthDone s
  | .readPayload => payloadByteDone s
  | .readCrc => crcDone s
  | .seekEnd => endDone s
  | .seekStart => (s, .more)
  | .doneHold => (s, .more)

/-- Outside SEEK_START a bit is shifted in, and a complete field is acted on. -/
theorem decoderBit_of_not_searching {s : State} (h : s.dec.rxState ≠ .seekStart) (v : Bool) :
    decoderBit v s =
      if (shiftBit v s).dec.nbits = s.dec.rxState.fieldWidth then fieldDone (shiftBit v s)
      else (shiftBit v s, .more) := by
  have kept : (shiftBit v s).dec.rxState = s.dec.rxState := rfl
  unfold decoderBit fieldDone
  rw [kept]
  cases e : s.dec.rxState with
  | seekStart => exact absurd e h
  | doneHold => exact (ite_self _).symm
  | readLen => rfl
  | readPayload => rfl
  | readCrc => rfl
  | seekEnd => rfl

/-! ## The outcomes of a bit -/

/-- Outside SEEK_START an accepted bit leaves the decoder where it is or takes it to the next field. -/
def RxState.StaysOrAdvances (x y : RxState) : Prop :=
  y = x ∨ (x = .readLen ∧ y = .readPayload) ∨ (x = .readPayload ∧ y = .readCrc) ∨ (x = .readCrc ∧ y = .seekEnd)

/-- What one bit, or the field it completes, does to `s`, with its answer: `accept` allows it to be accepted with the
new decoder state, and else it stops by a failure or by the end of the packet. -/
inductive BitEffect (accept : RxState → Prop) (s : State) : State × BitOutcome → Prop where
  | accepted {d : Decoder} (h : accept d.rxState) : BitEffect accept s ({ s with dec := d }, .more)
  | failed {r : FailReason} (h : r = .badLength ∨ r = .badCrc ∨ r = .badEnd) :
      BitEffect accept s (decoderFail r s, .stop)
  | completed {d : Decoder} (h : s.dec.rxState = .seekEnd) :
      BitEffect accept s (packetDone { s with dec := d }, .stop)

theorem fieldDone_effect (s : State) : BitEffect s.dec.rxState.StaysOrAdvances s (fieldDone s) := by
  unfold fieldDone
  cases e : s.dec.rxState with
  | seekStart => exact .accepted (.inl e)
  | doneHold => exact .accepted (.inl e)
  | readLen =>
    dsimp only [lengthDone]
    split
    · exact .failed (.inl rfl)
    · exact .accepted (.inr (.inl ⟨rfl, rfl⟩))
  | readPayload =>
    refine .accepted ?_
    dsimp only
    split
    · exact .inr (.inr (.inl ⟨rfl, rfl⟩))
    · exact .inl e
  | readCrc =>
    dsimp only [crcDone]
    split
    · exact .failed (.inr (.inl rfl))
    · exact .accepted (.inr (.inr (.inr ⟨rfl, rfl⟩)))
  | seekEnd =>
    dsimp only [endDone]
    split
    · exact .failed (.inr (.inr rfl))
    · exact .completed e

/-- The shift before the field is acted on shows in nothing but the decoder. -/
theorem BitEffect.of_shiftBit {accept : RxState → Prop} {v : Bool} {s : State} {r : State × BitOutcome}
    (h : BitEffect accept (shiftBit v s) r) : BitEffect accept s r := by
  cases h with
  | accepted h => exact .accepted h
  | failed h => exact .failed h
  | completed h => exact .completed h

/-- A bit outside SEEK_START. -/
theorem decoderBit_effect {s : State} (h : s.dec.rxState ≠ .seekStart) (v : Bool) :
    BitEffect s.dec.rxState.StaysOrAdvances s (decoderBit v s) := by
  rw [decoderBit_of_not_searching h]
  split
  · exact (fieldDone_effect (shiftBit v s)).of_shiftBit
  · exact .accepted (.inl rfl)

/-- An accepted bit changes nothing but the decoder. -/
theorem decoderBit_more_frame {v : Bool} {s t : State} (h : decoderBit v s = (t, .more)) :
    t = { s with dec := t.dec } := by
  by_cases searching : s.dec.rxState = .seekStart
  · have found : decoderBit v s = (seekStartBit v s, .more) := by simp only [decoderBit, searching]
    cases found.symm.trans h
    dsimp only [seekStartBit]
    split <;> rfl
  · have effect := decoderBit_effect searching v
    rw [h] at effect
    cases effect with
    | accepted _ => rfl

/-- Settles O42: by the effects of a bit, of which a failure and a delivery count. -/
theorem onlyFailureOrDeliveryLeavesAPacket : Obligations.OnlyFailureOrDeliveryLeavesAPacket := by
  unfold Obligations.OnlyFailureOrDeliveryLeavesAPacket
  intro s v searching _
  have effect := decoderBit_effect searching v
  dsimp only
  generalize decoderBit v s = r at effect ⊢
  cases effect with
  | accepted next => exact ⟨fun _ => next, BitOutcome.noConfusion⟩
  | failed reason => exact ⟨BitOutcome.noConfusion, fun _ => .inl ⟨rfl, rfl, rfl, reason⟩⟩
  | @completed d e =>
    refine ⟨BitOutcome.noConfusion, fun _ => .inr ⟨e, ?_⟩⟩
    unfold packetDone
    split
    next done => exact ⟨rfl, .inr ⟨rfl, done⟩⟩
    next => exact ⟨rfl, .inl ⟨rfl, rfl⟩⟩

end Sys2Proof.Machine
end

section
/-! SUPPORT. The decoder fed a list of bits to its end, and the symbols that carry them (42_packet_codec.md R154, R162,
R163). -/

namespace Sys2Proof.Machine

/-! ## Bits fed to the end -/

/-- All of the bits are fed to `s`: none but the last stops, and the last leaves and answers `r`. -/
inductive Fed : State → List Bool → State × BitOutcome → Prop where
  | nil (s : State) : Fed s [] (s, .more)
  | last (s : State) (v : Bool) : Fed s [v] (decoderBit v s)
  | cons {s t : State} {v : Bool} {vs : List Bool} {r : State × BitOutcome} (h : decoderBit v s = (t, .more))
      (rest : Fed t vs r) : Fed s (v :: vs) r

/-- `feedBits` feeds them all. -/
theorem Fed.feedBits_eq {s : State} {vs : List Bool} {r : State × BitOutcome} (h : Fed s vs r) :
    feedBits vs s = r.1 := by
  induction h with
  | nil s => rfl
  | last s v => rw [feedBits]; split <;> rename_i e <;> rw [e]; rfl
  | cons h _ ih => rw [feedBits, h]; exact ih

theorem Fed.append {s t : State} {vs ws : List Bool} {r : State × BitOutcome} (h : Fed s vs (t, .more))
    (rest : Fed t ws r) : Fed s (vs ++ ws) r := by
  generalize e : (t, BitOutcome.more) = first at h
  induction h with
  | nil s => cases e; exact rest
  | last s v => exact .cons e.symm rest
  | cons h _ ih => exact .cons h (ih e)

/-- Every bit that is not the last was accepted. -/
theorem Fed.split {s : State} {vs ws : List Bool} {r : State × BitOutcome} (h : Fed s (vs ++ ws) r)
    (nonempty : ws ≠ []) : ∃ t, Fed s vs (t, .more) ∧ Fed t ws r := by
  induction vs generalizing s with
  | nil => exact ⟨s, .nil s, h⟩
  | cons v vs ih =>
    rw [List.cons_append] at h
    generalize e : vs ++ ws = rest at h
    cases h with
    | last => exact absurd (List.append_eq_nil_iff.1 e).2 nonempty
    | cons first h =>
      obtain ⟨t, before, after⟩ := ih (e ▸ h)
      exact ⟨t, .cons first before, after⟩

/-- While every bit is accepted nothing but the decoder changes, and it does not come to hold a packet. -/
theorem Fed.frame_of_more {s t : State} {vs : List Bool} (h : Fed s vs (t, .more)) :
    t = { s with dec := t.dec } ∧ (s.dec.rxState ≠ .doneHold → t.dec.rxState ≠ .doneHold) := by
  generalize e : (t, BitOutcome.more) = r at h
  induction h with
  | nil s => cases e; exact ⟨rfl, id⟩
  | last s v => exact ⟨decoderBit_more_frame e.symm, decoderBit_more e.symm⟩
  | cons h _ ih =>
    obtain ⟨kept, notHeld⟩ := ih e
    exact ⟨kept.trans (congrArg (fun z : State => { z with dec := t.dec }) (decoderBit_more_frame h)),
      fun hs => notHeld (decoderBit_more h hs)⟩

theorem Fed.active_eq_of_more {s t : State} {vs : List Bool} (h : Fed s vs (t, .more)) : t.active = s.active :=
  (congrArg State.active h.frame_of_more.1).trans rfl

/-! ## Bits carried by symbols -/

theorem feedSymbols_append (ks ls : List Nat) (s : State) :
    feedSymbols (ks ++ ls) s = feedSymbols ls (feedSymbols ks s) := List.foldl_append

/-- A SYMBOL outcome feeds the bits of the symbol. -/
theorem decoderFeed_bitsValue {s : State} {vs : List Bool} (bps : s.active.bps = some vs.length)
    (notHeld : s.dec.rxState ≠ .doneHold) : decoderFeed .symbol (bitsValue vs) s = feedBits vs s := by
  unfold decoderFeed
  rw [bps]
  dsimp only
  split
  next held => exact absurd held notHeld
  next => rw [bitsMsb_bitsValue]
  next notSymbol => exact absurd rfl notSymbol
  next _ notSymbol => exact absurd rfl notSymbol

/-- Symbols feed the bits they carry. -/
theorem Fed.feedSymbols_eq {s : State} {b n : Nat} {vs : List Bool} {r : State × BitOutcome}
    (bps : s.active.bps = some b) (notHeld : s.dec.rxState ≠ .doneHold) (long : n * b ≤ vs.length)
    (h : Fed s (vs.take (n * b)) r) : feedSymbols (groupBits b n vs) s = r.1 := by
  induction n generalizing r with
  | zero =>
    rw [Nat.zero_mul, List.take_zero] at h
    cases h
    rfl
  | succ n ih =>
    rw [Nat.succ_mul] at long h
    rw [List.take_add] at h
    have group : ((vs.drop (n * b)).take b).length = b := by rw [List.length_take, List.length_drop]; omega
    have nonempty : (vs.drop (n * b)).take b ≠ [] := by
      obtain ⟨pos, -, -⟩ := Plan.bps_eq_some bps
      exact List.ne_nil_of_length_pos (by omega)
    obtain ⟨t, before, symbol⟩ := h.split nonempty
    obtain ⟨kept, notHeld'⟩ := before.frame_of_more
    have bps' : t.active.bps = some ((vs.drop (n * b)).take b).length := by rw [kept, group]; exact bps
    rw [groupBits_eq_map, List.range_succ, List.map_append, ← groupBits_eq_map, feedSymbols_append,
      ih (by omega) before]
    exact (decoderFeed_bitsValue bps' (notHeld' notHeld)).trans symbol.feedBits_eq

section
variable {s : State} {b : Nat} {vs : List Bool} {r : State × BitOutcome} (bps : s.active.bps = some b)
  (notHeld : s.dec.rxState ≠ .doneHold) (whole : b ∣ vs.length) (h : Fed s vs r)
include bps notHeld whole h

/-- Bits that fill their symbols are all fed by them. -/
theorem Fed.feedSymbols_symbolsOf : feedSymbols (symbolsOf b vs) s = r.1 := by
  have length := Nat.div_mul_cancel whole
  rw [← vs.take_length, ← length] at h
  exact h.feedSymbols_eq bps notHeld length.le

/-- Before the last symbol nothing but the decoder has changed. -/
theorem Fed.feedSymbols_take {i : Nat} (hi : i < (symbolsOf b vs).length) :
    ∃ d, feedSymbols ((symbolsOf b vs).take i) s = { s with dec := d } := by
  rw [symbolsOf, length_groupBits] at hi
  have before : i * b < vs.length := by
    obtain ⟨one, -, -⟩ := Plan.bps_eq_some bps
    exact (Nat.mul_lt_mul_of_pos_right hi one).trans_eq (Nat.div_mul_cancel whole)
  rw [← vs.take_append_drop (i * b)] at h
  obtain ⟨t, accepted, -⟩ := h.split (mt List.drop_eq_nil_iff.1 (Nat.not_le.2 before))
  refine ⟨t.dec, ?_⟩
  rw [symbolsOf, take_groupBits hi.le, accepted.feedSymbols_eq bps notHeld before.le]
  exact accepted.frame_of_more.1

end

end Sys2Proof.Machine
end

section
/-! SUPPORT. The fields of a frame read by the decoder: the start marker found by the sliding window, then the length,
the payload, the integrity field and the end marker (42_packet_codec.md R163 to R169, R172, R173). -/

namespace Sys2Proof.Machine

/-- One bit shifted into a register from the right. -/
theorem shiftLeft_or_ofBool {w : Nat} (c : BitVec (w + 1)) (v : Bool) :
    ((c <<< 1) ||| (BitVec.ofBool v).setWidth (w + 1)) = BitVec.ofNat (w + 1) (2 * c.toNat + v.toNat) := by
  have low : ((c <<< 1) &&& (BitVec.ofBool v).setWidth (w + 1)) = 0#(w + 1) := by
    apply BitVec.eq_of_getLsbD_eq
    intro i _
    cases i <;> simp
  rw [← BitVec.add_eq_or_of_and_eq_zero _ _ low]
  apply BitVec.eq_of_toNat_eq
  simp [Nat.shiftLeft_eq, Nat.mul_comm]

/-! ## A field of a packet -/

/-- The decoder of `s` has the bits `vs` in its field register. -/
def fieldFilled (s : State) (vs : List Bool) : State :=
  { s with dec := { s.dec with acc := BitVec.ofNat 16 (bitsValue vs), nbits := vs.length } }

theorem shiftBit_fieldFilled (s : State) (vs : List Bool) (v : Bool) :
    shiftBit v (fieldFilled s vs) = fieldFilled s (vs ++ [v]) := by
  have acc : (BitVec.ofNat 16 (2 * (BitVec.ofNat 16 (bitsValue vs)).toNat + v.toNat)) =
      BitVec.ofNat 16 (bitsValue (vs ++ [v])) := by
    apply BitVec.eq_of_toNat_eq
    rw [bitsValue_concat]
    simp [Nat.add_mod, Nat.mul_mod]
  simp only [shiftBit, fieldFilled, shiftLeft_or_ofBool, acc, List.length_append, List.length_singleton]

section
variable {s : State} {vs : List Bool} (inField : 0 < s.dec.rxState.fieldWidth) (empty : fieldFilled s [] = s)
include inField

theorem decoderBit_fieldFilled (v : Bool) :
    decoderBit v (fieldFilled s vs) =
      if (vs ++ [v]).length = s.dec.rxState.fieldWidth then fieldDone (fieldFilled s (vs ++ [v]))
      else (fieldFilled s (vs ++ [v]), .more) := by
  have notSearching : (fieldFilled s vs).dec.rxState ≠ .seekStart := fun e : s.dec.rxState = _ => by
    rw [e] at inField
    exact absurd inField (Nat.lt_irrefl 0)
  rw [decoderBit_of_not_searching notSearching, shiftBit_fieldFilled]
  rfl

include empty

/-- Until the field is complete its bits are only shifted in. -/
theorem fed_of_short (short : vs.length < s.dec.rxState.fieldWidth) : Fed s vs (fieldFilled s vs, .more) := by
  induction vs using List.reverseRecOn with
  | nil => rw [empty]; exact .nil s
  | append_singleton vs v ih =>
    have bit := decoderBit_fieldFilled (vs := vs) inField v
    rw [if_neg (ne_of_lt short)] at bit
    rw [List.length_append, List.length_singleton] at short
    exact bit ▸ (ih (by omega)).append (.last _ v)

/-- The last bit of a field has it acted on. -/
theorem fed_of_full (full : vs.length = s.dec.rxState.fieldWidth) : Fed s vs (fieldDone (fieldFilled s vs)) := by
  induction vs using List.reverseRecOn with
  | nil => exact absurd full (ne_of_lt inField)
  | append_singleton vs v _ =>
    have bit := decoderBit_fieldFilled (vs := vs) inField v
    rw [if_pos full] at bit
    rw [List.length_append, List.length_singleton] at full
    exact bit ▸ (fed_of_short inField empty (by omega)).append (.last _ v)

end

/-! ## The fields -/

/-- The decoder is at the first bit of the field `field` of a packet with length `n` and payload so far `p`. -/
def atField (field : RxState) (n : Nat) (p : List Byte) (s : State) : State :=
  { s with dec := { s.dec with rxState := field, acc := 0#16, nbits := 0, plen := n, pay := p } }

/-- Where a payload goes on: the integrity field follows the last byte (R166). -/
def payloadField (n : Nat) (p : List Byte) : RxState := if p.length = n then .readCrc else .readPayload

section
variable (s : State) {n : Nat} {p : List Byte}

theorem fed_atField {field : RxState} {vs : List Bool} {r : State × BitOutcome} (inField : 0 < field.fieldWidth)
    (full : vs.length = field.fieldWidth) (done : fieldDone (fieldFilled (atField field n p s) vs) = r) :
    Fed (atField field n p s) vs r :=
  done ▸ fed_of_full (s := atField field n p s) inField rfl full

/-- A legal length opens a payload of that length (R165). -/
theorem fed_length (m : Nat) (q : List Byte) (pos : 1 ≤ n) (legal : n ≤ s.params.maxPayload) (fits : n ≤ 255) :
    Fed (atField .readLen m q s) (bitsMsb 8 n) (atField .readPayload n [] s, .more) := by
  have value : bitsValue (bitsMsb 8 n) = n := bitsValue_bitsMsb (by omega)
  have toNat : (BitVec.ofNat 16 n).toNat = n := Nat.mod_eq_of_lt (by omega)
  have nonzero : BitVec.ofNat 16 n ≠ 0#16 := fun e => by
    rw [e] at toNat
    exact absurd toNat (ne_of_lt pos)
  refine fed_atField s (Nat.succ_pos 7) (length_bitsMsb 8 n) ?_
  simp [fieldDone, fieldFilled, atField, lengthDone, value, toNat, nonzero, legal]

/-- A byte of the payload is kept (R166). -/
theorem fed_payloadByte (v : Byte) :
    Fed (atField .readPayload n p s) (bitsMsb 8 v.toNat)
      (atField (payloadField n (p ++ [v])) n (p ++ [v]) s, .more) := by
  refine fed_atField s (Nat.succ_pos 7) (length_bitsMsb 8 _) ?_
  simp [fieldDone, fieldFilled, atField, payloadByteDone, payloadField, bitsValue_bitsMsb v.isLt]

/-- The payload, byte by byte. -/
theorem fed_payload (pos : 1 ≤ n) (fits : p.length ≤ n) :
    Fed (atField .readPayload n [] s) (bytesBits p) (atField (payloadField n p) n p s, .more) := by
  induction p using List.reverseRecOn with
  | nil =>
    rw [payloadField, if_neg (ne_of_lt pos)]
    exact .nil _
  | append_singleton p v ih =>
    rw [List.length_append, List.length_singleton] at fits
    have before := ih (by omega)
    rw [payloadField, if_neg (by omega)] at before
    have bits : bytesBits (p ++ [v]) = bytesBits p ++ bitsMsb 8 v.toNat := by simp [bytesBits]
    rw [bits]
    exact before.append (fed_payloadByte s v)

/-- The integrity field is compared with the CRC of the payload (R167). -/
theorem fed_crc (c : BitVec 16) :
    Fed (atField .readCrc n p s) (bitsMsb 16 c.toNat)
      (if c = crc16 p then (atField .seekEnd n p s, .more) else (decoderFail .badCrc s, .stop)) := by
  have acc : BitVec.ofNat 16 (bitsValue (bitsMsb 16 c.toNat)) = c := by simp [bitsValue_bitsMsb c.isLt]
  refine fed_atField s (Nat.succ_pos 15) (length_bitsMsb 16 _) ?_
  simp only [fieldDone, fieldFilled, atField, crcDone, acc]
  split
  next => rfl
  next right => rw [if_pos (not_not.1 right)]

/-- The end marker completes the packet, which is delivered once the previous one was taken (R168, R169). -/
theorem fed_endMarker (taken : s.flags.rxDone = false) :
    Fed (atField .seekEnd n p s) (bitsMsb 8 s.active.endMarker.toNat) (deliver (atField .seekEnd n p s), .stop) := by
  have acc : BitVec.ofNat 16 (bitsValue (bitsMsb 8 s.active.endMarker.toNat)) = s.active.endMarker.setWidth 16 := by
    rw [bitsValue_bitsMsb s.active.endMarker.isLt]
    apply BitVec.eq_of_toNat_eq
    simp
  have complete : endDone (fieldFilled (atField .seekEnd n p s) (bitsMsb 8 s.active.endMarker.toNat)) =
      (packetDone (fieldFilled (atField .seekEnd n p s) (bitsMsb 8 s.active.endMarker.toNat)), .stop) :=
    if_neg (not_not.2 acc)
  refine fed_atField s (Nat.succ_pos 7) (length_bitsMsb 8 _) ?_
  exact complete.trans (congrArg (·, BitOutcome.stop) (if_neg (Bool.eq_false_iff.1 taken)))

end

/-! ## The marker search -/

/-- The sliding window after one more bit (R164). -/
def windowShifted (v : Bool) (s : State) : State :=
  { s with
    dec :=
      { s.dec with
        win := (s.dec.win <<< 1) ||| (BitVec.ofBool v).setWidth 8
        wcount := min (s.dec.wcount + 1) 8 } }

/-- The window matches the start marker. -/
def markerFound (s : State) : Prop := s.dec.wcount = 8 ∧ s.dec.win = s.active.startMarker

/-- The search goes on until the window matches; the length byte follows. -/
theorem decoderBit_of_searching {s : State} (h : s.dec.rxState = .seekStart) (v : Bool) :
    (markerFound (windowShifted v s) →
        decoderBit v s = (atField .readLen s.dec.plen s.dec.pay (windowShifted v s), .more)) ∧
      (¬ markerFound (windowShifted v s) → decoderBit v s = (windowShifted v s, .more)) := by
  have bit : decoderBit v s = (seekStartBit v s, .more) := by simp only [decoderBit, h]
  rw [bit]
  exact ⟨fun found => congrArg (·, BitOutcome.more) (if_pos found),
    fun missed => congrArg (·, BitOutcome.more) (if_neg missed)⟩

/-- `t` is `s` after the bits `vs` without a match: the window ends in them. -/
structure Searched (s : State) (vs : List Bool) (t : State) : Prop where
  searching : t.dec.rxState = .seekStart
  window : bitsMsb vs.length t.dec.win.toNat = vs
  counted : vs.length ≤ t.dec.wcount
  count_le : t.dec.wcount ≤ s.dec.wcount + vs.length
  failReason : t.dec.failReason = s.dec.failReason

theorem Searched.shift {s t : State} {vs : List Bool} (h : Searched s vs t) (short : vs.length < 8) (v : Bool) :
    Searched s (vs ++ [v]) (windowShifted v t) := by
  have length : (vs ++ [v]).length = vs.length + 1 := List.length_append
  have counted := h.counted
  have count_le := h.count_le
  refine ⟨h.searching, ?_, ?_, ?_, h.failReason⟩
  · have window : (windowShifted v t).dec.win = BitVec.ofNat 8 (2 * t.dec.win.toNat + v.toNat) :=
      shiftLeft_or_ofBool t.dec.win v
    rw [window, length, BitVec.toNat_ofNat, bitsMsb_mod short, bitsMsb_two_mul_add, h.window]
  · show _ ≤ min (t.dec.wcount + 1) 8
    omega
  · show min (t.dec.wcount + 1) 8 ≤ _
    omega

/-- A match is the start marker's last bits. -/
theorem Searched.eq_of_found {s t : State} {vs : List Bool} (h : Searched s vs t) (found : markerFound t) :
    vs = bitsMsb vs.length t.active.startMarker.toNat := by
  rw [← found.2, h.window]

/-- While too few bits have arrived, or they are not the marker's last ones, the search goes on. -/
theorem fed_searching {s : State} {vs : List Bool} (searching : s.dec.rxState = .seekStart) (short : vs.length ≤ 8)
    (missed : ∀ ws, ws <+: vs → ws ≠ [] →
      s.dec.wcount + ws.length < 8 ∨ ws ≠ bitsMsb ws.length s.active.startMarker.toNat) :
    ∃ t, Fed s vs (t, .more) ∧ Searched s vs t := by
  induction vs using List.reverseRecOn with
  | nil => exact ⟨s, .nil s, searching, rfl, Nat.zero_le _, le_rfl, rfl⟩
  | append_singleton vs v ih =>
    rw [List.length_append, List.length_singleton] at short
    obtain ⟨t, fed, searched⟩ := ih (by omega) fun ws h => missed ws (h.trans (List.prefix_append vs [v]))
    have next := searched.shift short v
    have noMatch : ¬ markerFound (windowShifted v t) := fun found => by
      obtain few | other := missed (vs ++ [v]) List.prefix_rfl (List.concat_ne_nil v vs)
      · exact absurd (found.1.symm.trans_le next.count_le) (Nat.not_le.2 few)
      · have active := fed.active_eq_of_more
        exact other (active ▸ next.eq_of_found found)
    have bit := (decoderBit_of_searching searched.searching v).2 noMatch
    exact ⟨windowShifted v t, fed.append (bit ▸ .last t v), next⟩

/-- No part of a start marker without a border is found before its last bit (R172). -/
theorem NoBorder.ne_of_prefix {m : Byte} (h : NoBorder m) {ws : List Bool} (start : ws <+: bitsMsb 8 m.toNat)
    (nonempty : ws ≠ []) (short : ws.length < 8) : ws ≠ bitsMsb ws.length m.toNat := by
  intro e
  have last : (bitsMsb 8 m.toNat).drop (8 - ws.length) = bitsMsb ws.length m.toNat := by
    have split : 8 - ws.length + ws.length = 8 := by omega
    rw [← drop_bitsMsb (8 - ws.length) ws.length, split]
  exact h ⟨ws.length, short⟩ (List.length_pos_iff.2 nonempty)
    ((List.prefix_iff_eq_take.1 start).symm.trans (e.trans last.symm))

/-- The start marker is found at its last bit, whatever the window held (R172). -/
theorem fed_startMarker {s : State} (searching : s.dec.rxState = .seekStart) (border : NoBorder s.active.startMarker) :
    ∃ (d : Decoder) (m : Nat) (q : List Byte), d.failReason = s.dec.failReason ∧
      Fed s (bitsMsb 8 s.active.startMarker.toNat) (atField .readLen m q { s with dec := d }, .more) := by
  have split := bitsMsb_succ 7 s.active.startMarker.toNat
  generalize hinit : bitsMsb 7 (s.active.startMarker.toNat / 2) = init at split
  generalize s.active.startMarker.toNat.testBit 0 = v at split
  have length : init.length = 7 := hinit ▸ length_bitsMsb 7 _
  obtain ⟨t, fed, searched⟩ := fed_searching (vs := init) searching (by omega) fun ws start nonempty =>
    .inr (border.ne_of_prefix (split ▸ start.trans (List.prefix_append _ _)) nonempty
      (start.length_le.trans_lt (by omega)))
  have next := searched.shift (by omega) v
  have kept := fed.frame_of_more.1
  have active := fed.active_eq_of_more
  have found : markerFound (windowShifted v t) := by
    refine ⟨?_, ?_⟩
    · have counted := searched.counted
      show min (t.dec.wcount + 1) 8 = 8
      omega
    · have window := next.window
      rw [List.length_append, length, List.length_singleton, ← split] at window
      exact (bitsMsb_toNat_inj window).trans (congrArg Plan.startMarker active.symm)
  have bit := (decoderBit_of_searching searched.searching v).1 found
  refine ⟨(windowShifted v t).dec, t.dec.plen, t.dec.pay, next.failReason, ?_⟩
  have state : windowShifted v t = { s with dec := (windowShifted v t).dec } :=
    congrArg (fun z : State => { z with dec := (windowShifted v t).dec }) kept
  rw [split, ← state]
  exact fed.append (bit ▸ .last t v)

end Sys2Proof.Machine
end

section
/-! SUPPORT. A whole frame fed to a searching decoder: delivered at its last symbol, or failed at a wrong integrity
field (42_packet_codec.md R172, R173, 43_capture_pipeline.md R198). -/

namespace Sys2Proof.Machine

/-- Bytes are whole numbers of symbols (30_encoding.md R102). -/
theorem Plan.dvd_eight_of_bps {p : Plan} {b : Nat} (h : p.bps = some b) : b ∣ 8 := by
  unfold Plan.bps at h
  split at h
  next => cases h; exact one_dvd 8
  split at h
  next => cases h; decide
  split at h
  next => cases h; decide
  next => cases h

/-- What a delivery leaves in memory: the payload in `RX_BUF`, every other byte as it was (R198). -/
theorem deliver_mem_read {s : State} (wf : s.mem.wf) (complete : s.dec.pay.length = s.dec.plen) :
    (∀ j, (h : j < s.dec.pay.length) → (deliver s).mem.read (0x200 + j) = s.dec.pay[j]) ∧
      MemKeptOutside 0x200 s.dec.plen s (deliver s) := by
  have written : ∀ a, (deliver s).mem.read a =
      if 0x200 ≤ a then (s.dec.pay[a - 0x200]?).getD (s.mem.read a) else s.mem.read a := fun a => by
    rw [deliver_mem, List.take_of_length_le complete.le, Memory.read_writeAll wf]
    rfl
  refine ⟨fun j hj => ?_, fun a outside => ?_⟩
  · rw [written, if_pos (Nat.le_add_right _ j), Nat.add_sub_cancel_left, List.getElem?_eq_getElem hj, Option.getD_some]
  · rw [written]
    split
    · rw [List.getElem?_eq_none (by omega), Option.getD_none]
    · rfl

/-! ## Up to the integrity field -/

section
variable {s : State} {p : List Byte} (searching : s.dec.rxState = .seekStart) (border : NoBorder s.active.startMarker)
  (pos : 1 ≤ p.length) (legal : p.length ≤ s.params.maxPayload) (small : s.params.maxPayload ≤ 255)
include searching border pos legal small

/-- The frame before the end marker: the packet is complete but for the marker, or it has failed (R172, R173). -/
theorem fed_upToCrc (c : BitVec 16) :
    ∃ d : Decoder, d.failReason = s.dec.failReason ∧
      Fed s (bitsUpToCrc s.active c p)
        (if c = crc16 p then (atField .seekEnd p.length p { s with dec := d }, .more)
          else (decoderFail .badCrc s, .stop)) := by
  obtain ⟨d, m, q, reason, marker⟩ := fed_startMarker searching border
  have length := fed_length { s with dec := d } m q pos legal (legal.trans small)
  have payload := fed_payload { s with dec := d } pos p.length.le_refl
  rw [payloadField, if_pos rfl] at payload
  exact ⟨d, reason, ((marker.append length).append payload).append (fed_crc _ c)⟩

end

/-- Settles O43: every bit but the last is accepted, which changes the decoder alone, and the last one delivers. -/
theorem aFrameIsDeliveredExactlyOnce : Obligations.AFrameIsDeliveredExactlyOnce := by
  unfold Obligations.AFrameIsDeliveredExactlyOnce
  intro s b p wf searching taken bps border pos legal small ks t
  have fits := legal.trans small
  have notHeld : s.dec.rxState ≠ .doneHold := by simp [searching]
  obtain ⟨d, reason, packet⟩ := fed_upToCrc searching border pos legal small (crc16 p)
  rw [if_pos rfl] at packet
  have fed := packet.append (fed_endMarker { s with dec := d } taken)
  have whole : b ∣ (bitsUpToCrc s.active (crc16 p) p ++ bitsMsb 8 s.active.endMarker.toNat).length := by
    rw [List.length_append, length_bitsUpToCrc, length_bitsMsb, ← Nat.mul_succ]
    exact (Plan.dvd_eight_of_bps bps).mul_right _
  have symbols : ks = symbolsOf b (bitsUpToCrc s.active (crc16 p) p ++ bitsMsb 8 s.active.endMarker.toNat) :=
    frameSymbolsWith_eq s.active b (crc16 p) fits
  have delivered : t = deliver (atField .seekEnd p.length p { s with dec := d }) :=
    (congrArg (feedSymbols · s) symbols).trans (fed.feedSymbols_symbolsOf bps notHeld whole)
  obtain ⟨stored, kept⟩ := deliver_mem_read (s := atField .seekEnd p.length p { s with dec := d }) wf rfl
  rw [delivered, symbols]
  refine ⟨rfl, Nat.mod_eq_of_lt (Nat.lt_succ_of_le fits), rfl, stored, kept,
    ⟨rfl, rfl, rfl, rfl, rfl, rfl, rfl, reason⟩, rfl, fun i hi => ?_⟩
  obtain ⟨e, before⟩ := fed.feedSymbols_take bps notHeld whole hi
  rw [before]

/-- After a failure the end marker starts nothing: the window is empty, and the marker is not the start marker
(R173). -/
theorem fed_endMarker_after_fail (r : FailReason) {s : State} (distinct : s.active.endMarker ≠ s.active.startMarker) :
    ∃ t, Fed (decoderFail r s) (bitsMsb 8 s.active.endMarker.toNat) (t, .more) ∧
      Searched (decoderFail r s) (bitsMsb 8 s.active.endMarker.toNat) t := by
  refine fed_searching rfl (length_bitsMsb 8 _).le fun ws start _ => ?_
  have short := start.length_le
  rw [length_bitsMsb] at short
  obtain few | full := short.lt_or_eq
  · exact .inl (show 0 + ws.length < 8 by omega)
  · refine .inr fun marker => distinct (bitsMsb_toNat_inj ?_)
    rw [← start.eq_of_length (full.trans (length_bitsMsb 8 _).symm), marker, full]
    rfl

/-- Settles O44: the integrity field fails the packet at its last symbol, and the end marker starts nothing. -/
theorem aWrongIntegrityFieldIsNeverDelivered : Obligations.AWrongIntegrityFieldIsNeverDelivered := by
  unfold Obligations.AWrongIntegrityFieldIsNeverDelivered
  intro s b p c searching bps border distinct pos legal small wrong t
  have notHeld : s.dec.rxState ≠ .doneHold := by simp [searching]
  have byte := Plan.dvd_eight_of_bps bps
  have whole : b ∣ (bitsUpToCrc s.active c p).length := length_bitsUpToCrc s.active c p ▸ byte.mul_right _
  have endWhole : b ∣ (bitsMsb 8 s.active.endMarker.toNat).length := by rwa [length_bitsMsb]
  obtain ⟨d, -, packet⟩ := fed_upToCrc searching border pos legal small c
  rw [if_neg wrong] at packet
  obtain ⟨u, marker, searched⟩ := fed_endMarker_after_fail .badCrc distinct
  have failed : feedSymbols (symbolsOf b (bitsUpToCrc s.active c p)) s = decoderFail .badCrc s :=
    packet.feedSymbols_symbolsOf bps notHeld whole
  have ended : feedSymbols (symbolsOf b (bitsMsb 8 s.active.endMarker.toNat)) (decoderFail .badCrc s) = u :=
    marker.feedSymbols_symbolsOf (s := decoderFail .badCrc s) bps RxState.noConfusion endWhole
  have result : t = u := by
    show feedSymbols (frameSymbolsWith s.active b c p) s = u
    rw [frameSymbolsWith_eq _ _ _ (legal.trans small), symbolsOf_append whole, feedSymbols_append, failed, ended]
  have kept := marker.frame_of_more.1
  have counted : u.rxFailCount = s.rxFailCount + 1#32 := (congrArg State.rxFailCount kept).trans rfl
  rw [result, counted]
  exact ⟨searched.searching, searched.failReason, rfl, kept⟩

end Sys2Proof.Machine
end

section
/-! SUPPORT. The elastic buffer as a queue (43_capture_pipeline.md R182 to R189): the slots a push and a pop touch, the
stored samples after each, when a pop is enabled and what becomes of its sample, and the Gray code of neighbouring
pointers. -/

namespace Sys2Proof.Machine

/-! ## Slots -/

/-- The upper pointer is the lower one advanced by their difference. -/
theorem add_ptrSub_mod {d a b : Nat} (ha : a < 2 ^ (d + 1)) (hb : b < 2 ^ (d + 1)) :
    (b + ptrSub d a b) % 2 ^ (d + 1) = a := by
  rw [ptrSub_eq ha hb]
  split
  next h => rw [Nat.add_sub_cancel' h, Nat.mod_eq_of_lt ha]
  next h => rw [show b + (a + 2 ^ (d + 1) - b) = a + 2 ^ (d + 1) by omega, Nat.add_mod_right, Nat.mod_eq_of_lt ha]

/-- A pointer names its slot by its low `d` bits. -/
theorem mod_pow_succ_mod (d n : Nat) : n % 2 ^ (d + 1) % 2 ^ d = n % 2 ^ d :=
  Nat.mod_mod_of_dvd n (pow_dvd_pow 2 d.le_succ)

/-- Fewer than `2^d` slots from a pointer on, none is named twice. -/
theorem slot_ne {d r i j : Nat} (below : i < j) (fits : j < 2 ^ d) : (r + i) % 2 ^ d ≠ (r + j) % 2 ^ d := by
  intro same
  have eq : i % 2 ^ d = j % 2 ^ d := Nat.ModEq.add_left_cancel' r same
  rw [Nat.mod_eq_of_lt (below.trans fits), Nat.mod_eq_of_lt fits] at eq
  exact below.ne eq

/-! ## The stored samples -/

/-- The samples a buffer of `2^d` slots stores, oldest first: `fifoContents` as a function of the buffer alone. -/
def Elastic.contents (d : Nat) (e : Elastic) : List Sample :=
  (List.range (ptrSub d e.wptr e.rptr)).map fun i => Sparse.read Slots.unlisted e.slots ((e.rptr + i) % 2 ^ d)

theorem fifoContents_eq (s : State) : fifoContents s = s.fifo.contents s.params.fifoLog2 := rfl

@[simp] theorem Elastic.length_contents (d : Nat) (e : Elastic) :
    (e.contents d).length = ptrSub d e.wptr e.rptr := by
  simp [Elastic.contents]

section
variable {d : Nat} {e : Elastic} (h : e.InRange d)
include h

/-- A push stores its sample in a slot that holds none of the stored ones (R184). -/
theorem Elastic.InRange.contents_push (notFull : ptrSub d e.wptr e.rqW ≠ 2 ^ d) (x : Sample) :
    Elastic.contents d
        { e with slots := Sparse.write Slots.unlisted e.slots (e.wptr % 2 ^ d) x, wptr := ptrNext d e.wptr } =
      e.contents d ++ [x] := by
  have room : ptrSub d e.wptr e.rptr < 2 ^ d := h.sampleSees.trans_lt (h.room.lt_of_ne notFull)
  have twice : 2 ^ (d + 1) = 2 * 2 ^ d := pow_succ' 2 d
  have slot : e.wptr % 2 ^ d = (e.rptr + ptrSub d e.wptr e.rptr) % 2 ^ d := by
    rw [← mod_pow_succ_mod d (e.rptr + _), add_ptrSub_mod h.wptr h.rptr]
  simp only [Elastic.contents]
  rw [ptrSub_ptrNext_left h.wptr h.rptr (by omega), List.range_succ, List.map_append, List.map_singleton, slot]
  congr 1
  · refine List.map_congr_left fun i hi => ?_
    exact Sparse.read_write_other h.slots (slot_ne (List.mem_range.1 hi) room) x
  · rw [Sparse.read_write_same h.slots]

/-- A buffer in which the core domain sees a sample stores one. -/
theorem Elastic.InRange.wptr_ne_rptr (seen : e.rptr ≠ e.wqR) : e.wptr ≠ e.rptr := by
  intro same
  have core := h.coreSees
  have level := ptrSub_ptrNext_right h.wqR h.rptr seen.symm
  rw [same, ptrSub_self] at core
  omega

/-- A pop takes the oldest of the stored samples (R187). -/
theorem Elastic.InRange.contents_pop (seen : e.rptr ≠ e.wqR) :
    e.contents d =
      Sparse.read Slots.unlisted e.slots (e.rptr % 2 ^ d) ::
        Elastic.contents d { e with rptr := ptrNext d e.rptr } := by
  have slot : ∀ i, (ptrNext d e.rptr + i) % 2 ^ d = (e.rptr + (i + 1)) % 2 ^ d := by
    intro i
    rw [ptrNext, Nat.add_mod, mod_pow_succ_mod, ← Nat.add_mod, Nat.add_right_comm, Nat.add_assoc]
  simp only [Elastic.contents, slot]
  rw [← ptrSub_ptrNext_right h.wptr h.rptr (h.wptr_ne_rptr seen), List.range_succ_eq_map, List.map_cons, List.map_map]
  rfl

end

/-! ## The steps -/

theorem srcPush_of_full {s : State} (full : s.wlevel = 2 ^ s.params.fifoLog2) (x : Sample) :
    srcPush x s = { s with flags := { s.flags with overrun := true } } := if_pos full

theorem srcPush_of_not_full {s : State} (notFull : s.wlevel ≠ 2 ^ s.params.fifoLog2) (x : Sample) :
    srcPush x s =
      { s with
        fifo :=
          { s.fifo with
            slots := Sparse.write Slots.unlisted s.fifo.slots (s.fifo.wptr % 2 ^ s.params.fifoLog2) x
            wptr := ptrNext s.params.fifoLog2 s.fifo.wptr } } := if_neg notFull

/-- What a pop does besides advancing `rptr` (R187, R189). -/
theorem rxPop_cases (s : State) :
    (popTakes s = true ∧
        rxPop s =
          assemble (popSample s) { s with fifo := { s.fifo with rptr := ptrNext s.params.fifoLog2 s.fifo.rptr } }) ∨
      (popTakes s = false ∧
        rxPop s = { s with fifo := { s.fifo with rptr := ptrNext s.params.fifoLog2 s.fifo.rptr } }) := by
  cases takes : popTakes s
  · exact .inr ⟨rfl, by simp [rxPop, takes]⟩
  · exact .inl ⟨rfl, by simp [rxPop, takes]⟩

/-- Whatever becomes of its sample, a pop advances `rptr` and moves nothing else in the buffer. -/
theorem rxPop_fifo (s : State) : (rxPop s).fifo = { s.fifo with rptr := ptrNext s.params.fifoLog2 s.fifo.rptr } := by
  obtain ⟨-, e⟩ | ⟨-, e⟩ := rxPop_cases s <;> rw [e]
  exact (assemble_frame _ _).fifo_eq

/-- A popped sample would be assembled when the receiver runs, is not paused and is out of loopback (R187). -/
theorem popTakes_iff (s : State) :
    popTakes s = true ↔ s.rxRun = true ∧ s.paused = false ∧ s.loopback = false := by
  simp [popTakes, State.capturing, and_assoc]

theorem holding_iff (s : State) : s.holding = true ↔ s.dec.rxState = .doneHold := decide_eq_true_iff

/-- `RxPop` needs a sample the core sees, and room for it in a receiver that would take it (R187, R188). -/
theorem rxPopEnabled_iff (s : State) :
    rxPopEnabled s = true ↔ s.fifo.rptr ≠ s.fifo.wqR ∧ ¬ (popTakes s = true ∧ s.dec.rxState = .doneHold) := by
  rw [← holding_iff, ← Bool.and_eq_true_iff, Bool.not_eq_true, rxPopEnabled, Bool.and_eq_true_iff, decide_eq_true_iff,
    Bool.not_eq_true']

theorem syncW2R_eq {s : State} (h : s.fifo.wptr < 2 ^ (s.params.fifoLog2 + 1)) :
    syncW2R s = { s with fifo := { s.fifo with wqR := s.fifo.wptr } } := by
  rw [syncW2R, grayToBin_gray h]

theorem syncR2W_eq {s : State} (h : s.fifo.rptr < 2 ^ (s.params.fifoLog2 + 1)) :
    syncR2W s = { s with fifo := { s.fifo with rqW := s.fifo.rptr } } := by
  rw [syncR2W, grayToBin_gray h]

/-- Settles O50: each step of the buffer is the queue's operation on `Elastic.contents`. -/
theorem theElasticBufferIsAQueue : Obligations.TheElasticBufferIsAQueue := by
  unfold Obligations.TheElasticBufferIsAQueue
  intro s x inv
  have h := ((invariant_iff s).2 inv).fifo
  refine ⟨fun full => srcPush_of_full full x, fun notFull => ?_, fun enabled => ?_, syncW2R_eq h.wptr,
    syncR2W_eq h.rptr, rfl, rfl, ?_⟩
  · rw [srcPush_of_not_full notFull]
    exact ⟨h.contents_push notFull x, rfl⟩
  · obtain ⟨seen, -⟩ := (rxPopEnabled_iff s).1 enabled
    rw [fifoContents_eq (rxPop s), rxPop_fifo, (rxPop_configKept s).params]
    exact h.contents_pop seen
  · rw [fifoContents_eq, Elastic.length_contents]
    exact h.sampleSees.trans h.room

/-- Settles O51: `take` and the hold, written out. -/
theorem poppedSamplesAreAssembledOrDiscarded : Obligations.PoppedSamplesAreAssembledOrDiscarded := by
  unfold Obligations.PoppedSamplesAreAssembledOrDiscarded
  intro s x u
  refine ⟨?_, fun closed => ?_, fun run unpaused out => ?_⟩
  · rw [rxPopEnabled_iff, popTakes_iff, and_assoc, and_assoc]
  · obtain ⟨takes, -⟩ | ⟨-, e⟩ := rxPop_cases s
    · obtain ⟨run, unpaused, out⟩ := (popTakes_iff s).1 takes
      simp [run, unpaused, out] at closed
    · exact e
  · obtain ⟨-, e⟩ | ⟨discards, -⟩ := rxPop_cases s
    · exact e
    · rw [(popTakes_iff s).2 ⟨run, unpaused, out⟩] at discards
      cases discards

/-! ## Neighbouring pointers -/

/-- The Gray code is linear: it commutes with `xor`. -/
theorem gray_xor_gray (v w : Nat) : gray v ^^^ gray w = gray (v ^^^ w) := by
  rw [gray, gray, gray, Nat.shiftRight_xor_distrib]
  ac_rfl

/-- Counting up by one changes a run of low bits: the carry's (R182). -/
theorem exists_xor_add_one_eq (v : Nat) : ∃ k, v ^^^ (v + 1) = 2 ^ (k + 1) - 1 := by
  induction v using Nat.strong_induction_on with
  | _ v ih =>
    have half : (v ^^^ (v + 1)) / 2 = (v / 2) ^^^ ((v + 1) / 2) := Nat.xor_div_two
    have odd : (v ^^^ (v + 1)) % 2 = (v + (v + 1)) % 2 := Nat.xor_mod_two_eq
    obtain even | carry := Nat.mod_two_eq_zero_or_one v
    · refine ⟨0, ?_⟩
      rw [show (v + 1) / 2 = v / 2 by omega, Nat.xor_self] at half
      omega
    · obtain ⟨k, hk⟩ := ih (v / 2) (by omega)
      refine ⟨k + 1, ?_⟩
      rw [show (v + 1) / 2 = v / 2 + 1 by omega, hk] at half
      have pos := Nat.two_pow_pos (k + 1)
      rw [pow_succ]
      omega

/-- The Gray code of a run of low bits is its highest bit. -/
theorem gray_two_pow_sub_one (k : Nat) : gray (2 ^ (k + 1) - 1) = 2 ^ k := by
  apply Nat.eq_of_testBit_eq
  intro i
  rw [gray, Nat.testBit_xor, Nat.testBit_shiftRight, Nat.testBit_two_pow_sub_one, Nat.testBit_two_pow_sub_one,
    Nat.testBit_two_pow]
  by_cases below : i < k
  · simp [show i < k + 1 by omega, show 1 + i < k + 1 by omega, below.ne']
  · simp [show ¬ 1 + i < k + 1 by omega]
    omega

/-- A pointer and the next differ in a run of low bits, in all `d + 1` of them at the wrap. -/
theorem exists_xor_ptrNext_eq {d v : Nat} (h : v < 2 ^ (d + 1)) :
    ∃ k, k ≤ d ∧ v ^^^ ptrNext d v = 2 ^ (k + 1) - 1 := by
  rw [ptrNext_eq h]
  split
  next wrap => exact ⟨d, le_rfl, by rw [Nat.xor_zero]; omega⟩
  next inside =>
    obtain ⟨k, hk⟩ := exists_xor_add_one_eq v
    refine ⟨k, ?_, hk⟩
    have bound : 2 ^ (k + 1) - 1 < 2 ^ (d + 1) := hk ▸ Nat.xor_lt_two_pow h (by omega)
    have le : 2 ^ (k + 1) ≤ 2 ^ (d + 1) := by omega
    exact Nat.le_of_succ_le_succ ((Nat.pow_le_pow_iff_right Nat.one_lt_two).1 le)

/-- Settles O49: the Gray codes of neighbours differ by the Gray code of a run of low bits. -/
theorem grayCodeRoundTripsAndChangesOneBit : Obligations.GrayCodeRoundTripsAndChangesOneBit := by
  unfold Obligations.GrayCodeRoundTripsAndChangesOneBit
  intro d v h
  refine ⟨Nat.xor_lt_two_pow h ((Nat.shiftRight_le v 1).trans_lt h), grayToBin_gray h, ?_⟩
  obtain ⟨k, le, run⟩ := exists_xor_ptrNext_eq h
  exact ⟨k, le, by rw [gray_xor_gray, run, gray_two_pow_sub_one]⟩

end Sys2Proof.Machine
end

section
/-! SUPPORT. Delivery of a packet (43_capture_pipeline.md R198), and the receiver that assembles nothing because a
packet is held or a half-duplex transmission pauses it (R188, R199, 44_send_path.md R213): what each agent's step and
each command keeps of it. -/

namespace Sys2Proof.Machine

/-! ## A delivery -/

/-- The bytes of `RX_BUF` after the delivery of a payload that is complete. -/
theorem read_deliver {s : State} (wf : s.mem.wf) (whole : s.dec.pay.length = s.dec.plen) (a : Nat) :
    (deliver s).mem.read a = if rxBufBase ≤ a then (s.dec.pay[a - rxBufBase]?).getD (s.mem.read a) else s.mem.read a := by
  rw [deliver_mem, ← whole, List.take_length, Memory.read_writeAll wf]

theorem packetDone_of_not_rxDone {s : State} (taken : s.flags.rxDone = false) : packetDone s = deliver s := by
  simp [packetDone, taken]

theorem deliverHeldEnabled_iff (s : State) :
    deliverHeldEnabled s = true ↔ s.dec.rxState = .doneHold ∧ s.flags.rxDone = false := by
  simp [deliverHeldEnabled, holding_iff]

theorem runEvent_deliverHeld_of_enabled {s : State} (enabled : deliverHeldEnabled s = true) :
    runEvent .deliverHeld s = .next (deliver s) := by
  simp [runEvent, enabled, deliverHeld]

/-- Settles O46: the bytes by `Memory.read_writeAll`, the other elements by `deliver`'s frame. -/
theorem deliveryWritesThePacket : Obligations.DeliveryWritesThePacket := by
  unfold Obligations.DeliveryWritesThePacket
  intro s wf whole small t
  refine ⟨fun i hi => ?_, fun b outside => ?_, ?_, rfl, rfl, ⟨rfl, rfl, rfl, rfl, rfl, rfl, rfl, rfl⟩, rfl,
    packetDone_of_not_rxDone, runEvent_deliverHeld_of_enabled⟩
  · show (deliver s).mem.read (rxBufBase + i) = _
    rw [read_deliver wf whole, if_pos (Nat.le_add_right _ i), Nat.add_sub_cancel_left, List.getElem?_eq_getElem hi,
      Option.getD_some]
  · rw [read_deliver wf whole, rxBufBase]
    split
    next above => rw [List.getElem?_eq_none (by omega), Option.getD_none]
    next => rfl
  · rw [deliver_rxLen, BitVec.toNat_ofNat, Nat.mod_eq_of_lt (by omega)]

/-! ## A receiver that assembles nothing -/

/-- The receiver is paused, or it holds a packet. -/
def State.Stalled (s : State) : Prop := s.paused = true ∨ s.dec.rxState = .doneHold

/-- `t` has the assembler, the detector results, `BLOCK_COUNT`, the decoder and `RX_DONE` of `s`. -/
structure ReceiverKept (s t : State) : Prop where
  asm : t.asm = s.asm
  det : t.det = s.det
  blockCount : t.blockCount = s.blockCount
  dec : t.dec = s.dec
  rxDone : t.flags.rxDone = s.flags.rxDone

theorem ReceiverKept.refl (s : State) : ReceiverKept s s := ⟨rfl, rfl, rfl, rfl, rfl⟩

/-- Transitivity, the later step first: it names the state in between. -/
theorem ReceiverKept.after {s t u : State} (h : ReceiverKept t u) (h' : ReceiverKept s t) : ReceiverKept s u :=
  ⟨h.asm.trans h'.asm, h.det.trans h'.det, h.blockCount.trans h'.blockCount, h.dec.trans h'.dec,
    h.rxDone.trans h'.rxDone⟩

theorem capturing_of_paused {s : State} (paused : s.paused = true) : s.capturing = false := by
  simp [State.capturing, paused]

/-- A stalled receiver pops only samples it does not take (R187, R188). -/
theorem popTakes_of_stalled {s : State} (stalled : s.Stalled) (enabled : rxPopEnabled s = true) :
    popTakes s = false := by
  obtain paused | held := stalled
  · simp [popTakes, capturing_of_paused paused]
  · exact Bool.not_eq_true _ ▸ fun takes => ((rxPopEnabled_iff s).1 enabled).2 ⟨takes, held⟩

/-- A stalled receiver in loopback does not capture the sample of a transmit step (R216). -/
theorem capturing_of_stalled {s : State} (stalled : s.Stalled) (enabled : txStepEnabled s = true)
    (loop : s.loopback = true) : s.capturing = false := by
  obtain paused | held := stalled
  · exact capturing_of_paused paused
  · obtain ⟨-, admits⟩ := Bool.and_eq_true_iff.1 enabled
    simpa [loop, (holding_iff s).2 held] using admits

theorem rxPop_receiverKept {s : State} (stalled : s.Stalled) (enabled : rxPopEnabled s = true) :
    ReceiverKept s (rxPop s) := by
  obtain ⟨takes, -⟩ | ⟨-, e⟩ := rxPop_cases s
  · rw [popTakes_of_stalled stalled enabled] at takes
    cases takes
  · rw [e]
    exact ⟨rfl, rfl, rfl, rfl, rfl⟩

theorem loopbackIn_of_not_capturing {s : State} (closed : s.capturing = false) (x : Sample) : loopbackIn x s = s := by
  simp [loopbackIn, closed]

theorem txAdvance_receiverKept (s : State) : ReceiverKept s (txAdvance s) := by
  obtain ⟨-, e⟩ | ⟨-, -, e⟩ | ⟨-, -, e⟩ := txAdvance_cases s <;> rw [e] <;> exact ⟨rfl, rfl, rfl, rfl, rfl⟩

theorem txStep_receiverKept {s : State} (stalled : s.Stalled) (enabled : txStepEnabled s = true) :
    ReceiverKept s (txStep s) := by
  refine (txAdvance_receiverKept _).after ?_
  split
  next loop =>
    have closed : State.capturing { s with tx := { s.tx with phase := txPhaseNext s } } = false :=
      capturing_of_stalled stalled enabled loop
    rw [loopbackIn_of_not_capturing closed]
    exact ⟨rfl, rfl, rfl, rfl, rfl⟩
  next => exact ⟨rfl, rfl, rfl, rfl, rfl⟩

theorem deliver_of_runEvent {s t : State} (h : runEvent .deliverHeld s = .next t) :
    t = s ∨ deliverHeldEnabled s = true ∧ t = deliver s := by
  by_cases enabled : deliverHeldEnabled s = true
  · rw [runEvent_deliverHeld_of_enabled enabled] at h
    cases h
    exact .inr ⟨enabled, rfl⟩
  · simp only [runEvent, enabled] at h
    cases h
    exact .inl rfl

/-- A core step from a stalled receiver keeps it, or delivers the held packet. -/
theorem runEvent_receiverKept {s t : State} {e : Event} (stalled : s.Stalled) (core : eventOfCore e = true)
    (h : runEvent e s = .next t) :
    ReceiverKept s t ∨ e = .deliverHeld ∧ deliverHeldEnabled s = true ∧ t = deliver s := by
  cases e with
  | syncW2R => cases h; exact .inl ⟨rfl, rfl, rfl, rfl, rfl⟩
  | syncR2W => cases h; exact .inl ⟨rfl, rfl, rfl, rfl, rfl⟩
  | txStep =>
    cases h
    split
    next enabled => exact .inl (txStep_receiverKept stalled enabled)
    next => exact .inl (.refl s)
  | rxPop =>
    cases h
    split
    next enabled => exact .inl (rxPop_receiverKept stalled enabled)
    next => exact .inl (.refl s)
  | deliverHeld =>
    obtain rfl | ⟨enabled, rfl⟩ := deliver_of_runEvent h
    · exact .inl (.refl _)
    · exact .inr ⟨rfl, enabled, rfl⟩
  | hostRead | hostWrite | srcPush | rst => cases core

/-- Settles O52: a core step keeps a stalled receiver or delivers, and a delivery does not reach the assembler. -/
theorem pauseAndHoldStopTheAssembler : Obligations.PauseAndHoldStopTheAssembler := by
  unfold Obligations.PauseAndHoldStopTheAssembler
  intro s t e stalled core h
  obtain kept | ⟨-, -, rfl⟩ := runEvent_receiverKept stalled core h
  · exact ⟨kept.asm, kept.det, kept.blockCount⟩
  · exact ⟨rfl, rfl, rfl⟩

/-! ## The host's writes -/

/-- `t` has the decoder, the transmit engine and the active configuration of `s`, and `RX_DONE` is set in it only if it
was. -/
structure AccessKept (s t : State) : Prop where
  dec : t.dec = s.dec
  tx : t.tx = s.tx
  active : t.active = s.active
  rxDone : s.flags.rxDone = false → t.flags.rxDone = false

theorem ackFlags_accessKept (d : Word) (s : State) : AccessKept s (ackFlags d s) :=
  ⟨rfl, rfl, rfl, fun clear => by simp [ackFlags, EventFlags.ack, clear]⟩

theorem regWrite_accessKept {d : Word} {s t : State} {r : Reg} (hr : r ≠ .cmd) (h : regWrite d s r = .next t) :
    AccessKept s t := by
  cases r with
  | cmd => exact absurd rfl hr
  | status => cases h; exact ackFlags_accessKept d s
  | _ => cases h; exact ⟨rfl, rfl, rfl, id⟩

/-- A host write issues the command its word encodes, or it reaches neither decoder nor engine (20_memory.md R75 to R80,
45_control_commands.md R230). -/
theorem hostWrite_command_or_accessKept {off : BitVec 12} {size : BitVec 2} {d : Word} {s t : State}
    (h : hostWrite off size d s = .next t) :
    (∃ i, Event.hostWrite off size d = commandEvent (encode i) ∧ exec i (answerWrite s) = .next t) ∨
      AccessKept s t := by
  obtain ⟨r, rfl, place, e⟩ | e | ⟨m, e⟩ := hostWrite_cases off size d s <;> rw [e] at h
  · by_cases hr : r = .cmd
    · subst hr
      obtain rfl : off = cmdOffset := BitVec.eq_of_toNat_eq place.symm
      cases word : decode d with
      | ok i =>
        obtain ⟨-, rfl⟩ := wellFormed_and_encode_eq_of_decode word
        exact .inl ⟨i, rfl, (cmdWrite_of_decode_eq_ok word _).symm.trans h⟩
      | error _ =>
        rw [regWrite, cmdWrite_of_decode_ne_ok (by simp [word])] at h
        cases h
        exact .inr ⟨rfl, rfl, rfl, id⟩
    · have kept := regWrite_accessKept hr h
      exact .inr ⟨kept.dec, kept.tx, kept.active, kept.rxDone⟩
  · cases h; exact .inr ⟨rfl, rfl, rfl, id⟩
  · cases h; exact .inr ⟨rfl, rfl, rfl, id⟩

/-! ## A held packet -/

theorem decoderClearUnlessHeld_dec_of_held {s : State} (held : s.dec.rxState = .doneHold) :
    (decoderClearUnlessHeld s).dec = s.dec := congrArg State.dec (if_pos held)

theorem pauseEnter_dec_of_held {s : State} (held : s.dec.rxState = .doneHold) : (pauseEnter s).dec = s.dec := by
  obtain ⟨-, e⟩ | ⟨searching, -⟩ | ⟨notHeld, -, -⟩ := pauseEnter_cases s
  · rw [e]; rfl
  · cases held.symm.trans searching
  · exact absurd held notHeld

theorem txAccept_dec_of_held {s : State} (held : s.dec.rxState = .doneHold) (items : List TxItem) :
    (txAccept items s).dec = s.dec := by
  unfold txAccept
  dsimp only
  split
  · exact pauseEnter_dec_of_held held
  · rfl

theorem RefusedOrAccepted.dec_of_held {w : Word} {s t : State} (h : RefusedOrAccepted w s t)
    (held : s.dec.rxState = .doneHold) : t.dec = s.dec := by
  obtain ⟨code, rfl⟩ | ⟨items, rfl⟩ := h
  · rfl
  · exact txAccept_dec_of_held held items

/-- No command but SOFT_RESET discards a held packet (R199). -/
theorem exec_dec_of_held {i : Instr} {s t : State} (held : s.dec.rxState = .doneHold) (hi : i ≠ .softReset)
    (h : exec i s = .next t) : t.dec = s.dec := by
  cases i with
  | softReset => exact absurd rfl hi
  | nop => cases h; rfl
  | configure =>
    simp only [exec, execConfigure] at h
    split at h
    · cases h; rfl
    split at h <;> cases h
    · rfl
    · exact decoderClearUnlessHeld_dec_of_held held
  | txFrame len => exact (execTxFrame_refusedOrAccepted h).dec_of_held held
  | txSymbol sym => exact (execTxSymbol_refusedOrAccepted h).dec_of_held held
  | txSilence => exact (execTxSilence_refusedOrAccepted h).dec_of_held held
  | txAbort =>
    simp only [exec, execTxAbort] at h
    split at h <;> cases h <;> rfl
  | rxStart =>
    simp only [exec, execRxStart] at h
    split at h
    · cases h; rfl
    split at h <;> cases h
    · rfl
    · exact decoderClearUnlessHeld_dec_of_held held
  | rxStop => cases h; exact decoderClearUnlessHeld_dec_of_held held
  | rxResync => cases h; exact decoderClearUnlessHeld_dec_of_held held
  | rxSlip count => cases h; rfl

theorem CommandFrame.rxDone_eq {s t : State} (h : CommandFrame s t) : t.flags.rxDone = s.flags.rxDone :=
  (congrArg (fun z : State => z.flags.rxDone) h.equation).trans rfl

/-- A push changes only the buffer and `OVERRUN` (R184). -/
theorem srcPush_frame (x : Sample) (s : State) :
    srcPush x s =
      { s with
        fifo := (srcPush x s).fifo, flags := { s.flags with overrun := (srcPush x s).flags.overrun } } := by
  by_cases full : s.wlevel = 2 ^ s.params.fifoLog2
  · rw [srcPush_of_full full]
  · rw [srcPush_of_not_full full]

/-- Every step keeps a held packet, and `RX_DONE` clear, but its delivery, SOFT_RESET and `rst` (R199). -/
theorem runEvent_of_held {s t : State} {e : Event} (held : s.dec.rxState = .doneHold) (h : runEvent e s = .next t) :
    (t.dec = s.dec ∧ (s.flags.rxDone = false → t.flags.rxDone = false)) ∨
      (e = .deliverHeld ∧ s.flags.rxDone = false) ∨ e = .rst ∨ e = commandEvent 0x02000000#32 := by
  by_cases core : eventOfCore e = true
  · obtain kept | ⟨rfl, enabled, -⟩ := runEvent_receiverKept (.inr held) core h
    · exact .inl ⟨kept.dec, kept.rxDone.trans⟩
    · exact .inr (.inl ⟨rfl, ((deliverHeldEnabled_iff s).1 enabled).2⟩)
  cases e with
  | txStep | rxPop | deliverHeld | syncW2R | syncR2W => exact absurd rfl core
  | rst => exact .inr (.inr (.inl rfl))
  | hostRead off size =>
    cases h
    obtain e | ⟨v, e⟩ := hostRead_cases off size s <;> rw [e] <;> exact .inl ⟨rfl, id⟩
  | srcPush x =>
    cases h
    rw [srcPush_frame]
    exact .inl ⟨rfl, id⟩
  | hostWrite off size d =>
    obtain ⟨i, word, command⟩ | kept := hostWrite_command_or_accessKept h
    · by_cases reset : i = .softReset
      · exact .inr (.inr (.inr (word.trans (by rw [reset]; decide))))
      · exact .inl ⟨exec_dec_of_held (s := answerWrite s) held reset command,
          (exec_commandFrame reset command).rxDone_eq.trans⟩
    · exact .inl ⟨kept.dec, kept.rxDone⟩

/-- Settles O47: when `DeliverHeld` is enabled, what it does, and what every other step keeps. -/
theorem aHeldPacketWaitsForTheHost : Obligations.AHeldPacketWaitsForTheHost := by
  unfold Obligations.AHeldPacketWaitsForTheHost
  intro s held
  have enabled : deliverHeldEnabled s = true ↔ s.flags.rxDone = false :=
    (deliverHeldEnabled_iff s).trans (and_iff_right held)
  refine ⟨enabled, fun taken => ⟨runEvent_deliverHeld_of_enabled (enabled.2 taken), rfl⟩, fun e t h => ?_⟩
  exact (runEvent_of_held held h).imp_left And.left

/-! ## A slip -/

/-- Samples within the slip count are discarded and counted down (R190). -/
theorem assembleAll_of_slip {s : State} {xs : List Sample} (within : xs.length ≤ s.asm.slipRemain.toNat) :
    assembleAll xs s =
      { s with asm := { s.asm with slipRemain := s.asm.slipRemain - BitVec.ofNat 16 xs.length } } := by
  induction xs using List.reverseRecOn with
  | nil => simp [assembleAll]
  | append_singleton xs x ih =>
    rw [List.length_append, List.length_singleton] at within ⊢
    rw [assembleAll_concat, ih (by omega)]
    obtain ⟨-, e⟩ | ⟨usedUp, -⟩ | ⟨usedUp, -⟩ :=
      assemble_cases x { s with asm := { s.asm with slipRemain := s.asm.slipRemain - BitVec.ofNat 16 xs.length } }
    · rw [e, BitVec.ofNat_add, ← BitVec.sub_sub]
    all_goals
      have left : (s.asm.slipRemain - BitVec.ofNat 16 xs.length) = 0#16 := usedUp
      bv_omega

/-- Settles O53: the slip discards its samples, and with no slip left a sample inside the block is counted. -/
theorem aSlipDiscardsExactlyItsCount : Obligations.ASlipDiscardsExactlyItsCount := by
  unfold Obligations.ASlipDiscardsExactlyItsCount
  intro s xs x within t
  have discarded : t = _ := assembleAll_of_slip within
  have left : t.asm.slipRemain = s.asm.slipRemain - BitVec.ofNat 16 xs.length := by rw [discarded]
  refine ⟨?_, ?_, fun all inside => ?_⟩
  · rw [left]
    bv_omega
  · rw [left]
    exact discarded
  · have usedUp : t.asm.slipRemain = 0#16 := by rw [left]; bv_omega
    have counted := assemble_of_inside usedUp (by rw [discarded]; exact inside) x
    rw [counted, discarded]

end Sys2Proof.Machine
end

section
/-! SUPPORT. Progress of fair runs (70_reset_and_hazards.md R305, R307): a held packet is delivered, and a transmission
whose samples the output side accepts ends (43_capture_pipeline.md R199, 44_send_path.md R218). -/

namespace Sys2Proof.Machine

/-! ## The transmit engine between its steps -/

/-- `t` has the transmit engine and the active configuration of `s`. -/
structure EngineKept (s t : State) : Prop where
  tx : t.tx = s.tx
  active : t.active = s.active

theorem EngineKept.refl (s : State) : EngineKept s s := ⟨rfl, rfl⟩

/-- Transitivity, the later step first: it names the state in between. -/
theorem EngineKept.after {s t u : State} (h : EngineKept t u) (h' : EngineKept s t) : EngineKept s u :=
  ⟨h.tx.trans h'.tx, h.active.trans h'.active⟩

theorem AssembleFrame.engineKept {s t : State} (h : AssembleFrame s t) : EngineKept s t := ⟨h.tx_eq, h.active_eq⟩

theorem decoderClearUnlessHeld_engineKept (s : State) : EngineKept s (decoderClearUnlessHeld s) := by
  obtain ⟨-, e⟩ | ⟨-, e⟩ := decoderClearUnlessHeld_cases s <;> rw [e] <;> exact ⟨rfl, rfl⟩

/-- While a transmission is in progress no command but TX_ABORT and SOFT_RESET reaches the engine or the configuration:
the others that would are refused (60_exceptions.md R265). -/
theorem exec_engineKept {i : Instr} {s t : State} (busy : s.tx.busy = true) (reset : i ≠ .softReset)
    (abort : i ≠ .txAbort) (h : exec i s = .next t) : EngineKept s t := by
  cases i with
  | softReset => exact absurd rfl reset
  | txAbort => exact absurd rfl abort
  | nop => cases h; exact .refl s
  | configure => simp only [exec, execConfigure, busy, Bool.true_or, if_true] at h; cases h; exact ⟨rfl, rfl⟩
  | txFrame len => simp only [exec, execTxFrame, busy, if_true] at h; cases h; exact ⟨rfl, rfl⟩
  | txSymbol sym => simp only [exec, execTxSymbol, busy, if_true] at h; cases h; exact ⟨rfl, rfl⟩
  | txSilence => simp only [exec, execTxSilence, busy, if_true] at h; cases h; exact ⟨rfl, rfl⟩
  | rxStart =>
    simp only [exec, execRxStart] at h
    split at h
    · cases h; exact ⟨rfl, rfl⟩
    split at h <;> cases h
    · exact .refl s
    · have kept := decoderClearUnlessHeld_engineKept (assemblerClear { s with fifo := s.fifo.flushed })
      exact ⟨kept.tx, kept.active⟩
  | rxStop => cases h; exact (decoderClearUnlessHeld_engineKept _).after ⟨rfl, rfl⟩
  | rxResync => cases h; exact decoderClearUnlessHeld_engineKept s
  | rxSlip count => cases h; exact ⟨rfl, rfl⟩

/-- The events that end a transmission at once: TX_ABORT, SOFT_RESET and `rst`. -/
def StopsTransmission (e : Event) : Prop :=
  e = commandEvent 0x13000000#32 ∨ e = commandEvent 0x02000000#32 ∨ e = .rst

theorem runEvent_of_stops {s t : State} {e : Event} (stops : StopsTransmission e) (h : runEvent e s = .next t) :
    t.tx.busy = false := by
  obtain rfl | rfl | rfl := stops
  · have word : decode 0x13000000#32 = .ok .txAbort := by decide
    rw [runEvent_commandEvent, cmdWrite_of_decode_eq_ok word] at h
    simp only [exec, execTxAbort] at h
    split at h <;> cases h
    · rfl
    next idle => exact Bool.eq_false_iff.2 idle
  · have word : decode 0x02000000#32 = .ok .softReset := by decide
    rw [runEvent_commandEvent, cmdWrite_of_decode_eq_ok word] at h
    cases h
    rfl
  · cases h
    rfl

/-- The events that move a transmission on or end it. -/
def MovesTransmission (e : Event) : Prop := e = .txStep ∨ StopsTransmission e

/-- Every other event leaves a transmission in progress where it is. -/
theorem runEvent_engineKept {s t : State} {e : Event} (busy : s.tx.busy = true) (rests : ¬ MovesTransmission e)
    (h : runEvent e s = .next t) : EngineKept s t := by
  cases e with
  | txStep => exact absurd (.inl rfl) rests
  | rst => exact absurd (.inr (.inr (.inr rfl))) rests
  | syncW2R => cases h; exact ⟨rfl, rfl⟩
  | syncR2W => cases h; exact ⟨rfl, rfl⟩
  | srcPush x => cases h; rw [srcPush_frame]; exact ⟨rfl, rfl⟩
  | hostRead off size =>
    cases h
    obtain e | ⟨v, e⟩ := hostRead_cases off size s <;> rw [e] <;> exact ⟨rfl, rfl⟩
  | hostWrite off size d =>
    obtain ⟨i, word, command⟩ | kept := hostWrite_command_or_accessKept h
    · have abort : encode .txAbort = 0x13000000#32 := by decide
      have reset : encode .softReset = 0x02000000#32 := by decide
      have kept : EngineKept (answerWrite s) t := by
        refine exec_engineKept busy ?_ ?_ command
        · rintro rfl; exact rests (.inr (.inr (.inl (reset ▸ word))))
        · rintro rfl; exact rests (.inr (.inl (abort ▸ word)))
      exact ⟨kept.tx, kept.active⟩
    · exact ⟨kept.tx, kept.active⟩
  | rxPop =>
    cases h
    split
    · obtain ⟨-, e⟩ | ⟨-, e⟩ := rxPop_cases s <;> rw [e]
      · exact (assemble_frame _ _).engineKept.after ⟨rfl, rfl⟩
      · exact ⟨rfl, rfl⟩
    · exact .refl s
  | deliverHeld =>
    obtain rfl | ⟨-, rfl⟩ := deliver_of_runEvent h
    · exact .refl _
    · exact ⟨rfl, rfl⟩

/-! ## How much of a transmission is left -/

theorem TxItem.length_samples (p : Plan) (phase n : Nat) (item : TxItem) : (item.samples p phase n).length = n := by
  cases item with
  | tone k => exact length_toneSamples p k phase n
  | silent => exact List.length_replicate

/-- How many samples an engine owes depends on the engine and the configuration alone. -/
theorem length_txRemaining (s : State) :
    (txRemaining s).length =
      if s.tx.busy then
        s.active.n - s.tx.sampleIdx + (s.tx.items.drop (s.tx.blockIdx + 1)).length * s.active.n
      else 0 := by
  unfold txRemaining
  split
  · rw [List.length_append, TxItem.length_samples, length_renderItems]
  · rfl

theorem EngineKept.length_txRemaining_eq {s t : State} (h : EngineKept s t) :
    (txRemaining t).length = (txRemaining s).length := by
  rw [length_txRemaining, length_txRemaining, h.tx, h.active]

/-! ## Runs -/

/-- What happens at all at or after `i` happens a first time. -/
theorem exists_first {P : Nat → Prop} {i : Nat} (h : ∃ j, i ≤ j ∧ P j) :
    ∃ j, i ≤ j ∧ P j ∧ ∀ n, i ≤ n → n < j → ¬ P n := by
  classical
  obtain ⟨le, holds⟩ := Nat.find_spec h
  exact ⟨Nat.find h, le, holds, fun n hn before hP => Nat.find_min h before ⟨hn, hP⟩⟩

/-- The transmission in progress at `i` ends, by its last sample with `TX_DONE` or by an event that stops it. -/
def TransmissionEnds (ev : Nat → Event) (run : Nat → State) (i : Nat) : Prop :=
  ∃ j, i ≤ j ∧ (∀ n, i ≤ n → n ≤ j → (run n).tx.busy = true) ∧ (run (j + 1)).tx.busy = false ∧
    ((ev j = .txStep ∧ (run (j + 1)).flags.txDone = true) ∨ StopsTransmission (ev j))

/-- A transmission that is in progress up to `j` and ends from `j + 1` on ends. -/
theorem TransmissionEnds.of_later {ev : Nat → Event} {run : Nat → State} {i j : Nat}
    (busy : ∀ n, i ≤ n → n ≤ j → (run n).tx.busy = true) (hj : i ≤ j) (later : TransmissionEnds ev run (j + 1)) :
    TransmissionEnds ev run i := by
  obtain ⟨k, hk, busyLater, ends⟩ := later
  refine ⟨k, by omega, fun n hn hnk => ?_, ends⟩
  by_cases early : n ≤ j
  · exact busy n hn early
  · exact busyLater n (by omega) hnk

section
variable {ev : Nat → Event} {run : Nat → State} {i : Nat} (agent : AgentRun ev run)
include agent

/-! ### A held packet -/

/-- Until its delivery a held packet stays, and `RX_DONE` stays clear. -/
theorem AgentRun.held_until (held : (run i).dec.rxState = .doneHold) (taken : (run i).flags.rxDone = false)
    (noReset : ∀ j, i ≤ j → ev j ≠ .rst ∧ ev j ≠ commandEvent 0x02000000#32) {j : Nat}
    (before : ∀ n, i ≤ n → n < j → ev n ≠ .deliverHeld) :
    ∀ n, i ≤ n → n ≤ j → (run n).dec = (run i).dec ∧ (run n).flags.rxDone = false := by
  intro n hn
  induction n, hn using Nat.le_induction with
  | base => exact fun _ => ⟨rfl, taken⟩
  | succ n hn ih =>
    intro hj
    obtain ⟨dec, clear⟩ := ih (Nat.le_of_succ_le hj)
    obtain ⟨noRst, noSoftReset⟩ := noReset n hn
    obtain ⟨dec', clear'⟩ | ⟨delivery, -⟩ | rst | softReset := runEvent_of_held (dec ▸ held) (agent n)
    · exact ⟨dec'.trans dec, clear' clear⟩
    · exact absurd delivery (before n hn hj)
    · exact absurd rst noRst
    · exact absurd softReset noSoftReset

/-- Under weak fairness `DeliverHeld` is taken: until it is, it stays enabled. -/
theorem AgentRun.exists_delivery (fair : WeaklyFair ev run) (held : (run i).dec.rxState = .doneHold)
    (taken : (run i).flags.rxDone = false)
    (noReset : ∀ j, i ≤ j → ev j ≠ .rst ∧ ev j ≠ commandEvent 0x02000000#32) : ∃ j, i ≤ j ∧ ev j = .deliverHeld := by
  by_contra never
  refine never (fair .deliverHeld i fun j hj => ?_)
  obtain ⟨dec, clear⟩ := agent.held_until held taken noReset (fun n hn _ e => never ⟨n, hn, e⟩) j hj le_rfl
  have enabled : deliverHeldEnabled (run j) = true := (deliverHeldEnabled_iff _).2 ⟨dec ▸ held, clear⟩
  simp [fairEnabled, eventOfCore, eventEnabled, enabled]

/-! ### A transmission -/

theorem AgentRun.invariant (h : (run i).Invariant) {n : Nat} (hn : i ≤ n) : (run n).Invariant := by
  induction n, hn using Nat.le_induction with
  | base => exact h
  | succ n _ ih => exact ih.runEvent (agent n)

/-- Until an event moves it, a transmission in progress stays where it is. -/
theorem AgentRun.engineKept_until (busy : (run i).tx.busy = true) {j : Nat}
    (rests : ∀ n, i ≤ n → n < j → ¬ MovesTransmission (ev n)) :
    ∀ n, i ≤ n → n ≤ j → EngineKept (run i) (run n) := by
  intro n hn
  induction n, hn using Nat.le_induction with
  | base => exact fun _ => .refl _
  | succ n hn ih =>
    intro hj
    have kept := ih (Nat.le_of_succ_le hj)
    exact (runEvent_engineKept (kept.tx ▸ busy) (rests n hn hj) (agent n)).after kept

/-- An output side that accepts moves a transmission: until it does, the sample stays on the port (R305). -/
theorem AgentRun.exists_move (accepts : OutputAccepts ev run) (busy : (run i).tx.busy = true)
    (out : ∀ j, i ≤ j → (run j).loopback = false) : ∃ j, i ≤ j ∧ MovesTransmission (ev j) := by
  by_contra never
  obtain ⟨j, hj, step⟩ := accepts i fun j hj => by
    have kept := agent.engineKept_until busy (fun n hn _ moves => never ⟨n, hn, moves⟩) j hj le_rfl
    rw [txPort_of_output (kept.tx ▸ busy) (out j hj)]
    exact Option.some_ne_none _
  exact never ⟨j, hj, .inl step⟩

/-- A transmission to an output side that accepts ends, by induction on the samples the engine owes. -/
theorem AgentRun.transmissionEnds (accepts : OutputAccepts ev run) (h : (run i).Invariant)
    (busy : (run i).tx.busy = true) (out : ∀ j, i ≤ j → (run j).loopback = false) : TransmissionEnds ev run i := by
  induction owed : (txRemaining (run i)).length using Nat.strong_induction_on generalizing i with
  | _ k ih =>
    obtain ⟨j, hj, moves, rests⟩ := exists_first (agent.exists_move accepts busy out)
    have kept := agent.engineKept_until busy rests
    have busyUntil : ∀ n, i ≤ n → n ≤ j → (run n).tx.busy = true := fun n hn hnj => (kept n hn hnj).tx ▸ busy
    have busyNow := busyUntil j hj le_rfl
    obtain step | stops := moves
    · have enabled : txStepEnabled (run j) = true := by simp [txStepEnabled, busyNow, out j hj]
      have next : txStep (run j) = run (j + 1) := by
        have taken := agent j
        rw [step, runEvent_txStep_of_enabled enabled] at taken
        exact Host.Outcome.next.inj taken
      have emitted := (txStep_emitted busyNow (out j hj)).2
      rw [next] at emitted
      obtain ⟨goesOn, -⟩ | ⟨idle, done⟩ := emitted
      · have fewer : (txRemaining (run (j + 1))).length < k := by
          rw [← owed, ← (kept j hj le_rfl).length_txRemaining_eq,
            txRemaining_eq_cons (agent.invariant h hj) busyNow (out j hj), next]
          exact Nat.lt_succ_self _
        exact .of_later busyUntil hj
          (ih _ fewer (agent.invariant h (by omega)) goesOn (fun n hn => out n (by omega)) rfl)
      · exact ⟨j, hj, busyUntil, by rw [idle]; rfl, .inl ⟨step, by rw [done]⟩⟩
    · exact ⟨j, hj, busyUntil, runEvent_of_stops stops (agent j), .inr stops⟩

end

/-- Settles O60: the first `DeliverHeld` finds the packet as it was, and a transmission ends by induction on what it
owes. -/
theorem aFairRunDeliversAHeldPacket : Obligations.AFairRunDeliversAHeldPacket := by
  unfold Obligations.AFairRunDeliversAHeldPacket
  refine ⟨fun ev run i agent fair held taken noReset => ?_, fun ev run i agent accepts inv busy out =>
    agent.transmissionEnds accepts ((invariant_iff _).2 inv) busy out⟩
  obtain ⟨j, hj, delivery, before⟩ := exists_first (agent.exists_delivery fair held taken noReset)
  have kept := agent.held_until held taken noReset before
  obtain ⟨dec, clear⟩ := kept j hj le_rfl
  have delivered := agent j
  rw [delivery, runEvent_deliverHeld_of_enabled ((deliverHeldEnabled_iff _).2 ⟨dec ▸ held, clear⟩)] at delivered
  exact ⟨j, hj, delivery, (Host.Outcome.next.inj delivered).symm, kept⟩

end Sys2Proof.Machine
end

section
/-! SUPPORT. TX_FRAME, the half-duplex pause and TX_ABORT (44_send_path.md R211 to R215): the frame of the payload in
`TX_BUF` as it is accepted, what any accepted transmission does to a receiver that it pauses, and the engine stopped. -/

namespace Sys2Proof.Machine

/-! ## TX_FRAME -/

theorem exec_txFrame_accepted {s : State} {len b : Nat} (idle : s.tx.busy = false) (valid : s.cfgValid = true)
    (bps : s.active.bps = some b) (pos : 1 ≤ len) (fits : len ≤ s.params.maxPayload) :
    exec (.txFrame len) s = .next (txAccept ((frameSymbols s.active b (txPayload len s)).map .tone) s) := by
  have legal : ¬ (len = 0 ∨ s.params.maxPayload < len) := by omega
  simp [exec, execTxFrame, idle, valid, bps, legal]

/-- TX_FRAME leaves a busy engine where it found an idle one only if it accepted the frame (R211). -/
theorem exec_txFrame_started {s t : State} {len : Nat} (h : exec (.txFrame len) s = .next t)
    (idle : s.tx.busy = false) (busy : t.tx.busy = true) :
    ∃ b, s.active.bps = some b ∧ 1 ≤ len ∧ len ≤ s.params.maxPayload ∧
      t = txAccept ((frameSymbols s.active b (txPayload len s)).map .tone) s := by
  have refused : ∀ code, Host.Outcome.next (cmdRefuse code 0#8 (encode (.txFrame len)) s) ≠
      (.next t : Host.Outcome State Fault Refusal) := by
    rintro code ⟨⟩
    simp [idle] at busy
  simp only [exec, execTxFrame] at h
  split at h
  · exact absurd h (refused _)
  split at h
  · exact absurd h (refused _)
  split at h
  · exact absurd h (refused _)
  next b bps =>
    split at h
    · exact absurd h (refused _)
    next legal => exact ⟨b, bps, by omega, by omega, (Host.Outcome.next.inj h).symm⟩

@[simp] theorem length_txPayload (len : Nat) (s : State) : (txPayload len s).length = len :=
  Memory.length_readAll ..

theorem getElem_txPayload (len : Nat) (s : State) {j : Nat} (h : j < (txPayload len s).length) :
    (txPayload len s)[j] = s.mem.read (0x100 + j) :=
  Memory.getElem_readAll _ _ _ _ h

/-- The payload is determined by the bytes of `TX_BUF` (R211). -/
theorem eq_txPayload {p : List Byte} {len : Nat} {s : State} (length : p.length = len)
    (bytes : ∀ j, (h : j < p.length) → p[j] = s.mem.read (0x100 + j)) : p = txPayload len s := by
  refine List.ext_getElem (by rw [length, length_txPayload]) fun j hj hj' => ?_
  rw [bytes j hj, getElem_txPayload]

theorem length_frameSymbols (a : Plan) (b : Nat) (p : List Byte) :
    (frameSymbols a b p).length = 8 * (p.length + 5) / b := by
  rw [frameSymbols, length_groupBits, length_frameBits]

theorem lt_of_mem_frameSymbols {a : Plan} {b k : Nat} {p : List Byte} (bps : a.bps = some b)
    (hk : k ∈ frameSymbols a b p) : k < a.m := by
  obtain ⟨-, -, m⟩ := Plan.bps_eq_some bps
  exact m ▸ lt_of_mem_groupBits hk

theorem length_frameSymbols_pos {a : Plan} {b : Nat} (bps : a.bps = some b) (p : List Byte) :
    0 < (frameSymbols a b p).length := by
  obtain ⟨one, four, -⟩ := Plan.bps_eq_some bps
  rw [length_frameSymbols]
  exact Nat.div_pos (by omega) one

/-- `TX_STATUS` after acceptance is the number of blocks (10_state.md R49). -/
theorem txStatus_txAccept {items : List TxItem} (few : items.length < 2 ^ 16) (s : State) :
    regRead (txAccept items s) .txStatus = BitVec.ofNat 32 items.length := by
  have blocks : (BitVec.ofNat 16 items.length).setWidth 32 = BitVec.ofNat 32 items.length :=
    BitVec.setWidth_ofNat_of_le_of_lt (by decide) few
  simp only [regRead, State.txStatusWord, txAccept_tx, if_true, Nat.sub_zero, bitField, blocks]
  simp

/-- Settles O12: the accepted list is the frame of the payload, and acceptance has its frame. -/
theorem txFrameStartsTheFrameOfTxBuf : Obligations.TxFrameStartsTheFrameOfTxBuf := by
  unfold Obligations.TxFrameStartsTheFrameOfTxBuf
  rintro s len b ⟨-, small, -⟩ idle valid bps pos fits
  have accepted := exec_txFrame_accepted idle valid bps pos fits
  generalize listed : (frameSymbols s.active b (txPayload len s)).map TxItem.tone = items at accepted
  have blocks : items.length = 8 * (len + 5) / b := by
    rw [← listed, List.length_map, length_frameSymbols, length_txPayload]
  have few : items.length < 2 ^ 16 := by
    have := Nat.div_le_self (8 * (len + 5)) b
    omega
  have frame := txAccept_acceptFrame items s
  refine ⟨txAccept items s, accepted, fun p length bytes => ?_, ?_, blocks ▸ txStatus_txAccept few s,
    fun unpaused => ?_, frame.equation, frame.regsKept, fun a => by rw [txAccept_mem]⟩
  · rw [txAccept_tx, eq_txPayload length bytes, listed]
  · rw [txAccept_tx]
    exact blocks
  · rw [txAccept_tx] at unpaused
    exact txAccept_of_not_paused unpaused items

/-! ## The half-duplex pause -/

/-- A command that leaves a busy engine where it found an idle one has had a transmission accepted (R210). -/
theorem exec_eq_txAccept {i : Instr} {s t : State} (h : exec i s = .next t) (idle : s.tx.busy = false)
    (busy : t.tx.busy = true) : ∃ items, t = txAccept items s := by
  have stays : t.tx.busy = s.tx.busy → ∃ items, t = txAccept items s := by simp [idle, busy]
  have started : ∀ {w : Word}, RefusedOrAccepted w s t → ∃ items, t = txAccept items s := by
    rintro w (⟨code, rfl⟩ | accepted)
    · exact stays rfl
    · exact accepted
  have clears : ∀ u : State, (decoderClearUnlessHeld (assemblerClear u)).tx = u.tx := fun u =>
    (decoderClearUnlessHeld_engineKept _).tx
  cases i with
  | txFrame len => exact started (execTxFrame_refusedOrAccepted h)
  | txSymbol sym => exact started (execTxSymbol_refusedOrAccepted h)
  | txSilence => exact started (execTxSilence_refusedOrAccepted h)
  | nop => cases h; exact stays rfl
  | softReset => cases h; cases busy
  | rxStop => cases h; exact stays (by rw [clears])
  | rxResync => cases h; exact stays (by rw [(decoderClearUnlessHeld_engineKept s).tx])
  | rxSlip count => cases h; exact stays rfl
  | txAbort =>
    simp only [exec, execTxAbort, idle] at h
    cases h
    exact stays rfl
  | configure =>
    simp only [exec, execConfigure] at h
    split at h
    · cases h; exact stays rfl
    split at h <;> cases h
    · exact stays rfl
    · exact stays (by rw [clears])
  | rxStart =>
    simp only [exec, execRxStart] at h
    split at h
    · cases h; exact stays rfl
    split at h <;> cases h
    · exact stays rfl
    · exact stays (congrArg TxEngine.busy (clears _))

/-- In half duplex an accepted transmission pauses the receiver that runs (R212). -/
theorem txAccept_of_paused {s : State} (run : s.rxRun = true) (duplex : s.duplex = false)
    (loopback : s.loopback = false) (items : List TxItem) :
    txAccept items s =
      pauseEnter
        { s with tx := { s.tx with items, blockIdx := 0, sampleIdx := 0, busy := true, half := true } } := by
  simp [txAccept, run, duplex, loopback]

theorem assemblerCleared_cleared (a : Assembler) : AssemblerCleared a a.cleared := by
  simp [AssemblerCleared, Lane.zero]

theorem decoderCleared_cleared (d : Decoder) : DecoderCleared d d.cleared := ⟨rfl, rfl, rfl, rfl, rfl, rfl, rfl, rfl⟩

/-- The pause discards the partial block; it spares a held packet, clears a searching decoder and fails a packet in
progress (R213). -/
theorem pauseEnter_effect (s : State) :
    AssemblerCleared s.asm (pauseEnter s).asm ∧
      (s.dec.rxState = .doneHold → (pauseEnter s).dec = s.dec ∧ (pauseEnter s).rxFailCount = s.rxFailCount) ∧
      (s.dec.rxState = .seekStart →
        DecoderCleared s.dec (pauseEnter s).dec ∧ (pauseEnter s).rxFailCount = s.rxFailCount) ∧
      (s.dec.rxState ≠ .doneHold → s.dec.rxState ≠ .seekStart →
        DecoderCleared { s.dec with failReason := .paused } (pauseEnter s).dec ∧
          (pauseEnter s).rxFailCount = s.rxFailCount + 1#32) := by
  obtain ⟨held, e⟩ | ⟨searching, e⟩ | ⟨notHeld, notSearching, e⟩ := pauseEnter_cases s <;> rw [e] <;>
    refine ⟨assemblerCleared_cleared s.asm, ?_⟩
  · exact ⟨fun _ => ⟨rfl, rfl⟩, by simp [held], fun notHeld => absurd held notHeld⟩
  · exact ⟨by simp [searching], fun _ => ⟨decoderCleared_cleared s.dec, rfl⟩, fun _ no => absurd searching no⟩
  · exact ⟨fun held => absurd held notHeld, fun searching => absurd searching notSearching,
      fun _ _ => ⟨decoderCleared_cleared { s.dec with failReason := .paused }, rfl⟩⟩

/-- Settles O14: the transmission was accepted, and it has entered the pause. -/
theorem halfDuplexTransmissionPausesTheReceiver : Obligations.HalfDuplexTransmissionPausesTheReceiver := by
  unfold Obligations.HalfDuplexTransmissionPausesTheReceiver
  intro s t i h idle busy run duplex loopback
  obtain ⟨items, rfl⟩ := exec_eq_txAccept h idle busy
  rw [txAccept_of_paused run duplex loopback]
  refine ⟨?_, pauseEnter_effect _⟩
  rw [State.paused, (pauseEnter_frame _).rxRun_eq, (pauseEnter_frame _).tx_eq]
  simp [run]

/-! ## TX_ABORT -/

/-- What an engine that has stopped leaves: nothing but the engine and its status differs (R215). -/
theorem regsKept_of_tx (s : State) (e : TxEngine) : RegsKept [.status, .txStatus] s { s with tx := e } := by
  intro r unlisted
  cases r
  case status | txStatus => exact absurd (by decide) unlisted
  all_goals rfl

/-- Settles O16: a busy engine is emptied, an idle one is left alone. -/
theorem txAbortEndsTheTransmission : Obligations.TxAbortEndsTheTransmission := by
  unfold Obligations.TxAbortEndsTheTransmission
  intro s
  cases busy : s.tx.busy with
  | true =>
    refine ⟨{ s with tx := s.tx.idle }, by simp [exec, execTxAbort, busy], fun _ => rfl, nofun, rfl, ?_, rfl,
      regsKept_of_tx s s.tx.idle, fun _ => rfl⟩
    simp [State.paused]
  | false =>
    refine ⟨s, by simp [exec, execTxAbort, busy], nofun, fun _ => rfl, rfl, by simp [State.paused, busy], ?_,
      fun _ _ => rfl, fun _ => rfl⟩
    simp [regRead, State.txStatusWord, busy]

end Sys2Proof.Machine
end

section
/-! SUPPORT. The loopback round trip (44_send_path.md R216, R217). The decoder does not see the engine, the bank and the
detector results, so each block of a looped transmission feeds it one symbol, as if the symbols of the frame were fed
directly (42_packet_codec.md R172). -/

namespace Sys2Proof.Machine

/-! ## The reference tones -/

/-- Settles O38: the detector's decisions on the two reference blocks, computed (R217, V-DT-1, V-DT-2). -/
theorem referenceTonesAreDecidedAsTheirSymbols : Obligations.ReferenceTonesAreDecidedAsTheirSymbols := by
  unfold Obligations.ReferenceTonesAreDecidedAsTheirSymbols
  decide +kernel

/-! ## What the decoder does not see -/

/-- The state `d` with the engine, the bank, the detector results and the flags of both as they are in `r`. -/
def besides (r d : State) : State :=
  { d with
    tx := r.tx, asm := r.asm, det := r.det, blockCount := r.blockCount,
    flags := { d.flags with txDone := r.flags.txDone, detValid := r.flags.detValid } }

theorem seekStartBit_besides (r d : State) (v : Bool) :
    seekStartBit v (besides r d) = besides r (seekStartBit v d) := by
  unfold seekStartBit
  dsimp only
  rw [apply_ite (besides r)]
  rfl

theorem packetDone_besides (r d : State) : packetDone (besides r d) = besides r (packetDone d) := by
  rw [packetDone, packetDone, apply_ite (besides r)]
  rfl

theorem lengthDone_besides (r d : State) : lengthDone (besides r d) = Prod.map (besides r) id (lengthDone d) := by
  rw [lengthDone, lengthDone, apply_ite (Prod.map (besides r) id)]
  rfl

theorem crcDone_besides (r d : State) : crcDone (besides r d) = Prod.map (besides r) id (crcDone d) := by
  rw [crcDone, crcDone, apply_ite (Prod.map (besides r) id)]
  rfl

theorem endDone_besides (r d : State) : endDone (besides r d) = Prod.map (besides r) id (endDone d) := by
  rw [endDone, endDone, packetDone_besides, apply_ite (Prod.map (besides r) id)]
  rfl

theorem fieldDone_besides (r d : State) : fieldDone (besides r d) = Prod.map (besides r) id (fieldDone d) := by
  have seen : (besides r d).dec.rxState = d.dec.rxState := rfl
  unfold fieldDone
  rw [seen]
  cases d.dec.rxState with
  | readLen => exact lengthDone_besides r d
  | readPayload => rfl
  | readCrc => exact crcDone_besides r d
  | seekEnd => exact endDone_besides r d
  | seekStart => rfl
  | doneHold => rfl

theorem decoderBit_besides (r d : State) (v : Bool) :
    decoderBit v (besides r d) = Prod.map (besides r) id (decoderBit v d) := by
  have seen : (besides r d).dec.rxState = d.dec.rxState := rfl
  by_cases searching : d.dec.rxState = .seekStart
  · rw [decoderBit, decoderBit, seen, searching]
    exact congrArg (·, BitOutcome.more) (seekStartBit_besides r d v)
  · rw [decoderBit_of_not_searching searching, decoderBit_of_not_searching (seen ▸ searching),
      apply_ite (Prod.map (besides r) id), ← fieldDone_besides]
    rfl

theorem feedBits_besides (r d : State) (vs : List Bool) :
    feedBits vs (besides r d) = besides r (feedBits vs d) := by
  induction vs generalizing d with
  | nil => rfl
  | cons v vs ih =>
    rw [feedBits, feedBits, decoderBit_besides]
    obtain ⟨t, _ | _⟩ := decoderBit v d
    · exact ih t
    · rfl

/-- A block decision is fed as the decoder sees it. -/
theorem decoderFeed_besides (r d : State) (kind : DetKind) (k1 : Nat) :
    decoderFeed kind k1 (besides r d) = besides r (decoderFeed kind k1 d) := by
  have plan : (besides r d).active.bps = d.active.bps := rfl
  have seen : (besides r d).dec.rxState = d.dec.rxState := rfl
  unfold decoderFeed
  rw [plan, seen]
  cases d.active.bps with
  | none => rfl
  | some b =>
    dsimp only
    split
    · rfl
    · exact feedBits_besides ..
    · rfl
    · rfl

/-- `m` differs from `d` at most in what the decoder does not see. -/
def DecodesAs (d m : State) : Prop := m = besides m d

theorem DecodesAs.equation {d m : State} (h : DecodesAs d m) : m = besides m d := h

theorem DecodesAs.trans {d m u : State} (h : DecodesAs d m) (h' : DecodesAs m u) : DecodesAs d u :=
  h'.equation.trans ((congrArg (besides u) h.equation).trans rfl)

theorem DecodesAs.decoderFeed {d m : State} (h : DecodesAs d m) (kind : DetKind) (k1 : Nat) :
    DecodesAs (decoderFeed kind k1 d) (decoderFeed kind k1 m) := by
  have fed : Machine.decoderFeed kind k1 m = besides m (Machine.decoderFeed kind k1 d) :=
    (congrArg _ h.equation).trans (decoderFeed_besides m d kind k1)
  rw [fed]
  rfl

section
variable {d m : State} (h : DecodesAs d m)
include h

theorem DecodesAs.ctrl_eq : m.ctrl = d.ctrl := (congrArg State.ctrl h.equation).trans rfl
theorem DecodesAs.rxDone_eq : m.flags.rxDone = d.flags.rxDone :=
  (congrArg (fun z : State => z.flags.rxDone) h.equation).trans rfl
theorem DecodesAs.active_eq : m.active = d.active := (congrArg State.active h.equation).trans rfl
theorem DecodesAs.rxRun_eq : m.rxRun = d.rxRun := (congrArg State.rxRun h.equation).trans rfl
theorem DecodesAs.rxLen_eq : m.rxLen = d.rxLen := (congrArg State.rxLen h.equation).trans rfl
theorem DecodesAs.rxOkCount_eq : m.rxOkCount = d.rxOkCount := (congrArg State.rxOkCount h.equation).trans rfl
theorem DecodesAs.rxFailCount_eq : m.rxFailCount = d.rxFailCount := (congrArg State.rxFailCount h.equation).trans rfl
theorem DecodesAs.dec_eq : m.dec = d.dec := (congrArg State.dec h.equation).trans rfl
theorem DecodesAs.mem_eq : m.mem = d.mem := (congrArg State.mem h.equation).trans rfl
theorem DecodesAs.txo_eq : m.txo = d.txo := (congrArg State.txo h.equation).trans rfl

end

/-! ## One looped transmit step -/

/-- The bank of `m`, filled up with the samples the engine still owes to its block, is decided as the symbol `k`. -/
def CompletesAs (k : Nat) (m : State) : Prop :=
  let owed := (txItem m).samples m.active (txPhase m) (m.active.n - m.tx.sampleIdx)
  let d := (m.asm.accumulate m.active owed).decision m.active
  d.kind = .symbol ∧ d.k1 = k

/-- The receiver of `m` assembles the looped samples, and its bank has as many of the block as the engine has sent. -/
structure Aligned (m : State) : Prop where
  loopback : m.loopback = true
  capturing : m.capturing = true
  slip : m.asm.slipRemain = 0#16
  cnt : m.asm.cnt = m.tx.sampleIdx

/-- The counter of samples takes no part in a decision. -/
theorem Assembler.decision_accumulate_cnt (p : Plan) (a : Assembler) (c : Nat) (xs : List Sample) :
    (Assembler.accumulate p { a with cnt := c } xs).decision p = (a.accumulate p xs).decision p := by
  induction xs generalizing a with
  | nil => rfl
  | cons x xs ih => exact ih (a.laneUpdate p x)

/-- The state in which a looped transmit step has produced its sample and not yet assembled it (R121). -/
def txSampled (m : State) : State := { m with tx := { m.tx with phase := txPhaseNext m } }

section
variable {m : State} (h : Aligned m)
include h

/-- A looped step assembles its sample (44_send_path.md R216). -/
theorem Aligned.txStep_eq : txStep m = txAdvance (assemble (txSample m) (txSampled m)) := by
  have capturing : (txSampled m).capturing = true := h.capturing
  simp only [txStep, h.loopback, if_true, loopbackIn]
  exact congrArg txAdvance (if_pos capturing)

/-- Inside a block a looped step moves one sample from the engine to the bank. -/
theorem Aligned.txStep_of_inside (inside : m.tx.sampleIdx + 1 ≠ m.active.n) :
    txStep m =
      { m with
        tx := { m.tx with phase := txPhaseNext m, sampleIdx := m.tx.sampleIdx + 1 },
        asm := { m.asm.laneUpdate m.active (txSample m) with cnt := m.asm.cnt + 1 } } := by
  have slip : (txSampled m).asm.slipRemain = 0#16 := h.slip
  have more : (txSampled m).asm.cnt + 1 ≠ (txSampled m).active.n := h.cnt ▸ inside
  rw [h.txStep_eq, assemble_of_inside slip more]
  exact if_neg inside

/-- The sample moved is the first the engine owed to its block. -/
theorem Aligned.completesAs_txStep (inside : m.tx.sampleIdx + 1 < m.active.n) {k : Nat} (block : CompletesAs k m) :
    CompletesAs k (txStep m) := by
  have phase : txPhase (txStep m) = txPhaseNext m := by
    rw [h.txStep_of_inside inside.ne]
    exact txPhase_of_not_first (Nat.succ_ne_zero _)
  have owed : m.active.n - m.tx.sampleIdx = m.active.n - (m.tx.sampleIdx + 1) + 1 := by omega
  unfold CompletesAs at block ⊢
  rw [owed, samples_txItem_succ] at block
  rw [phase, h.txStep_of_inside inside.ne]
  dsimp only
  rw [Assembler.decision_accumulate_cnt]
  exact block

/-- The last sample of a block feeds the decoder the symbol of the block. -/
theorem Aligned.txStep_of_last (last : m.tx.sampleIdx + 1 = m.active.n) {k : Nat} (block : CompletesAs k m) :
    ∃ det, txStep m =
      txAdvance (decoderFeed .symbol k
        { txSampled m with
          asm := Assembler.reset, det := det, blockCount := m.blockCount + 1#32,
          flags := { m.flags with detValid := true } }) := by
  have slip : (txSampled m).asm.slipRemain = 0#16 := h.slip
  have full : (txSampled m).asm.cnt + 1 = (txSampled m).active.n := h.cnt ▸ last
  obtain ⟨kind, k1⟩ := block
  rw [← last, Nat.add_sub_cancel_left, samples_txItem_succ, TxItem.samples_zero] at kind k1
  generalize decision : (m.asm.accumulate m.active [txSample m]).decision m.active = d at kind k1
  have decided : txStep m = txAdvance (endBlockAs d (txSampled m)) := by
    rw [h.txStep_eq, assemble_of_last slip full, ← decision]
    rfl
  rw [endBlockAs, kind, k1] at decided
  exact ⟨_, decided⟩

end

/-! ## The looped transmission -/

theorem iterate_succ_apply' {α : Type} (f : α → α) (n : Nat) (a : α) : iterate f (n + 1) a = f (iterate f n a) := by
  induction n generalizing a with
  | zero => rfl
  | succ n ih => exact ih (f a)

theorem feedSymbols_frame (ks : List Nat) (s : State) : DecoderFrame s (feedSymbols ks s) := by
  induction ks generalizing s with
  | nil => exact .refl s
  | cons k ks ih => exact (decoderFeed_frame _ k s).trans (ih _)

theorem feedSymbols_take_succ {ks : List Nat} {i : Nat} (hi : i < ks.length) (s : State) :
    feedSymbols (ks.take (i + 1)) s = decoderFeed .symbol ks[i] (feedSymbols (ks.take i) s) := by
  rw [List.take_succ_eq_append_getElem hi, feedSymbols_append]
  rfl

/-- A receiver in loopback that decides the tone of each of the symbols `ks`, sent from phase 0, as that symbol. -/
structure LoopbackReady (ks : List Nat) (s : State) : Prop where
  loopback : s.loopback = true
  run : s.rxRun = true
  restarts : s.phaseCont = false
  decided : ∀ k ∈ ks, (detectBlock s.active (synthBlock s.active k 0)).kind = .symbol ∧
    (detectBlock s.active (synthBlock s.active k 0)).k1 = k

/-- `m` is in the middle of a looped transmission of the symbols `ks` to the receiver of `s`: the decoder has been fed
`i` of them, and `j` samples of the next block are in the bank. -/
structure LoopedBack (ks : List Nat) (s : State) (i j : Nat) (m : State) : Prop extends Aligned m where
  decoder : DecodesAs (feedSymbols (ks.take i) s) m
  engine : ∃ phase,
    m.tx = { busy := true, half := false, items := ks.map .tone, blockIdx := i, sampleIdx := j, phase }
  count : m.blockCount = s.blockCount + BitVec.ofNat 32 i
  block : ∀ h : i < ks.length, CompletesAs ks[i] m

/-- A looped transmission of the symbols `ks` to the receiver of `s` is over. -/
structure LoopedBackAll (ks : List Nat) (s : State) (u : State) : Prop where
  decoder : DecodesAs (feedSymbols ks s) u
  idle : u.tx.busy = false
  done : u.flags.txDone = true
  count : u.blockCount = s.blockCount + BitVec.ofNat 32 ks.length

section
variable {ks : List Nat} {s : State}

theorem LoopedBack.active_eq {i j : Nat} {m : State} (h : LoopedBack ks s i j m) : m.active = s.active :=
  h.decoder.active_eq.trans (feedSymbols_frame _ s).active_eq

/-- At the start of a block the bank is empty and the engine owes the whole block from phase 0. -/
theorem LoopbackReady.blockStart (ready : LoopbackReady ks s) {i : Nat} {m : State}
    (decoder : DecodesAs (feedSymbols (ks.take i) s) m)
    (engine : ∃ phase,
      m.tx = { busy := true, half := false, items := ks.map .tone, blockIdx := i, sampleIdx := 0, phase })
    (empty : m.asm = Assembler.reset) (count : m.blockCount = s.blockCount + BitVec.ofNat 32 i) :
    LoopedBack ks s i 0 m := by
  obtain ⟨phase, tx⟩ := engine
  have frame := (feedSymbols_frame (ks.take i) s).toAssemble
  have ctrl : m.ctrl = s.ctrl := decoder.ctrl_eq.trans frame.ctrl_eq
  have run : m.rxRun = true := (decoder.rxRun_eq.trans frame.rxRun_eq).trans ready.run
  have active : m.active = s.active := decoder.active_eq.trans frame.active_eq
  refine
    { loopback := by rw [State.loopback, ctrl]; exact ready.loopback
      capturing := by simp [State.capturing, State.paused, run, tx]
      slip := by rw [empty]; rfl
      cnt := by rw [empty, tx]; rfl
      decoder, engine := ⟨phase, tx⟩, count, block := fun hi => ?_ }
  have item : txItem m = .tone ks[i] := by simp [txItem, tx, hi]
  have first : txPhase m = 0 := by
    rw [txPhase_of_first (by rw [tx]), State.phaseCont, ctrl]
    exact congrArg (blockPhase · _) ready.restarts
  unfold CompletesAs
  rw [item, first, empty, tx, active]
  exact ready.decided _ (List.getElem_mem hi)

/-- An accepted transmission of the symbols starts the first block (R212). -/
theorem LoopbackReady.start (ready : LoopbackReady ks s) (empty : s.asm = Assembler.reset) :
    LoopedBack ks s 0 0 (txAccept (ks.map .tone) s) := by
  have half : (!s.duplex && !s.loopback) = false := by simp [ready.loopback]
  rw [txAccept_of_not_paused (by rw [half, Bool.and_false]), txAccept_tx, half]
  exact ready.blockStart rfl ⟨s.tx.phase, rfl⟩ empty (BitVec.add_zero _).symm

/-- One more sample of a block. -/
theorem LoopedBack.txStep_of_inside {i j : Nat} {m : State} (h : LoopedBack ks s i j m) (inside : j + 1 < s.active.n) :
    LoopedBack ks s i (j + 1) (txStep m) := by
  obtain ⟨phase, tx⟩ := h.engine
  have inside' : m.tx.sampleIdx + 1 < m.active.n := by rw [tx, h.active_eq]; exact inside
  have block := fun hi => h.toAligned.completesAs_txStep inside' (h.block hi)
  rw [h.toAligned.txStep_of_inside inside'.ne] at block ⊢
  exact
    { loopback := h.loopback, capturing := h.capturing, slip := h.slip, cnt := congrArg (· + 1) h.cnt
      decoder := h.decoder.trans (by exact rfl), engine := ⟨_, by rw [tx]⟩, count := h.count, block }

/-- The last sample of a block, before the engine moves on: the decoder has been fed one more symbol. -/
theorem LoopedBack.txStep_of_last {i j : Nat} {m : State} (h : LoopedBack ks s i j m) (last : j + 1 = s.active.n)
    (hi : i < ks.length) :
    ∃ w, txStep m = txAdvance w ∧ DecodesAs (feedSymbols (ks.take (i + 1)) s) w ∧
      w.tx.sampleIdx + 1 = w.active.n ∧ w.tx = { m.tx with phase := txPhaseNext m } ∧ w.asm = Assembler.reset ∧
      w.blockCount = s.blockCount + BitVec.ofNat 32 (i + 1) := by
  obtain ⟨phase, tx⟩ := h.engine
  have last' : m.tx.sampleIdx + 1 = m.active.n := by rw [tx, h.active_eq]; exact last
  obtain ⟨det, step⟩ := h.toAligned.txStep_of_last last' (h.block hi)
  refine ⟨_, step, ?_, ?_, (decoderFeed_frame ..).toAssemble.tx_eq, (decoderFeed_frame ..).asm_eq, ?_⟩
  · rw [feedSymbols_take_succ hi]
    exact DecodesAs.decoderFeed (h.decoder.trans (by exact rfl)) _ _
  · rw [(decoderFeed_frame ..).toAssemble.tx_eq, (decoderFeed_frame ..).active_eq]
    exact last'
  · rw [(decoderFeed_frame ..).blockCount_eq, BitVec.ofNat_add, ← BitVec.add_assoc, ← h.count]

/-- After the last sample of a block the next one starts. -/
theorem LoopbackReady.nextBlock (ready : LoopbackReady ks s) {i j : Nat} {m : State} (h : LoopedBack ks s i j m)
    (last : j + 1 = s.active.n) (more : i + 1 < ks.length) : LoopedBack ks s (i + 1) 0 (txStep m) := by
  obtain ⟨w, step, decoder, full, tx, empty, count⟩ := h.txStep_of_last last (Nat.lt_of_succ_lt more)
  obtain ⟨phase, engine⟩ := h.engine
  rw [engine] at tx
  have more' : w.tx.blockIdx + 1 ≠ w.tx.items.length := by rw [tx, List.length_map]; exact more.ne
  rw [step, show txAdvance w = _ from (if_pos full).trans (if_neg more')]
  exact ready.blockStart (decoder.trans rfl) ⟨_, by rw [tx]⟩ empty count

/-- After the last sample of the last block the transmission is over. -/
theorem LoopedBack.all_txStep {i j : Nat} {m : State} (h : LoopedBack ks s i j m)
    (last : j + 1 = s.active.n) (ended : i + 1 = ks.length) : LoopedBackAll ks s (txStep m) := by
  obtain ⟨w, step, decoder, full, tx, -, count⟩ := h.txStep_of_last last (ended ▸ i.lt_succ_self)
  obtain ⟨phase, engine⟩ := h.engine
  rw [engine] at tx
  have ended' : w.tx.blockIdx + 1 = w.tx.items.length := by rw [tx, List.length_map]; exact ended
  rw [ended, List.take_length] at decoder
  rw [step, show txAdvance w = _ from (if_pos full).trans (if_pos ended')]
  exact { decoder := decoder.trans rfl, idle := rfl, done := rfl, count := ended ▸ count }

/-- The states of one block. -/
theorem LoopedBack.samples {i c : Nat} {t : State} (start : LoopedBack ks s i 0 (iterate txStep c t)) {j : Nat}
    (hj : j < s.active.n) : LoopedBack ks s i j (iterate txStep (c + j) t) := by
  induction j with
  | zero => exact start
  | succ j ih =>
    rw [← Nat.add_assoc, iterate_succ_apply']
    exact (ih (Nat.lt_of_succ_lt hj)).txStep_of_inside hj

/-- The last sample of a block that starts after `i` whole blocks completes one more. -/
theorem LoopedBack.lastSample {i : Nat} {t : State} (pos : 0 < s.active.n)
    (start : LoopedBack ks s i 0 (iterate txStep (i * s.active.n) t)) :
    ∃ j m, j + 1 = s.active.n ∧ LoopedBack ks s i j m ∧ iterate txStep ((i + 1) * s.active.n) t = txStep m := by
  obtain ⟨j, hj⟩ := Nat.exists_eq_add_one.2 pos
  refine ⟨j, _, hj.symm, start.samples (by omega), ?_⟩
  rw [← iterate_succ_apply' txStep, Nat.succ_mul, Nat.add_assoc, ← hj]

/-- The starts of all blocks. -/
theorem LoopbackReady.blocks (ready : LoopbackReady ks s) {t : State} (start : LoopedBack ks s 0 0 t)
    (pos : 0 < s.active.n) {i : Nat} (hi : i < ks.length) : LoopedBack ks s i 0 (iterate txStep (i * s.active.n) t) := by
  induction i with
  | zero => rw [Nat.zero_mul]; exact start
  | succ i ih =>
    obtain ⟨j, m, last, state, step⟩ := (ih (Nat.lt_of_succ_lt hi)).lastSample pos
    rw [step]
    exact ready.nextBlock state last hi

/-- Every state before the last step. -/
theorem LoopbackReady.during (ready : LoopbackReady ks s) {t : State} (start : LoopedBack ks s 0 0 t)
    (pos : 0 < s.active.n) {c : Nat} (hc : c < ks.length * s.active.n) :
    ∃ i j, i < ks.length ∧ LoopedBack ks s i j (iterate txStep c t) := by
  have block : c / s.active.n < ks.length := Nat.div_lt_of_lt_mul (by rwa [Nat.mul_comm])
  have state := (ready.blocks start pos block).samples (Nat.mod_lt c pos)
  rw [Nat.mul_comm, Nat.div_add_mod] at state
  exact ⟨_, _, block, state⟩

/-- The state after the last step. -/
theorem LoopbackReady.after (ready : LoopbackReady ks s) {t : State} (start : LoopedBack ks s 0 0 t)
    (pos : 0 < s.active.n) (nonempty : 0 < ks.length) :
    LoopedBackAll ks s (iterate txStep (ks.length * s.active.n) t) := by
  obtain ⟨i, ended⟩ := Nat.exists_eq_add_one.2 nonempty
  obtain ⟨j, m, last, state, step⟩ := (ready.blocks start pos (show i < ks.length by omega)).lastSample pos
  rw [ended, step]
  exact state.all_txStep last ended.symm

end

/-! ## The round trip -/

/-- A decoder that holds a packet ignores symbols (42_packet_codec.md R162). -/
theorem feedSymbols_of_held {s : State} (held : s.dec.rxState = .doneHold) (ks : List Nat) : feedSymbols ks s = s := by
  have ignored : ∀ k, decoderFeed .symbol k s = s := fun k => by
    unfold decoderFeed
    rw [held]
    cases s.active.bps <;> rfl
  induction ks with
  | nil => rfl
  | cons k ks ih => exact (congrArg (feedSymbols ks) (ignored k)).trans ih

/-- A decoder that delivers with a later symbol does not hold a packet. -/
theorem not_held_of_delivery {ks : List Nat} {s : State} {i : Nat}
    (clear : (feedSymbols (ks.take i) s).flags.rxDone = false) (delivered : (feedSymbols ks s).flags.rxDone = true) :
    (feedSymbols (ks.take i) s).dec.rxState ≠ .doneHold := by
  intro held
  rw [← ks.take_append_drop i, feedSymbols_append, feedSymbols_of_held held, clear] at delivered
  cases delivered

/-- While the receiver does not hold a packet a looped step is enabled (44_send_path.md R216). -/
theorem LoopedBack.txStepEnabled {ks : List Nat} {s m : State} {i j : Nat} (h : LoopedBack ks s i j m)
    (notHeld : (feedSymbols (ks.take i) s).dec.rxState ≠ .doneHold) : txStepEnabled m = true := by
  obtain ⟨phase, tx⟩ := h.engine
  have holding : m.holding = false := by
    rw [State.holding, h.decoder.dec_eq]
    exact decide_eq_false notHeld
  simp [Machine.txStepEnabled, tx, holding]

/-- Settles O59: the looped blocks feed the decoder the symbols of the frame, which deliver the payload with the last
of them (O43). -/
theorem loopbackDeliversWhatIsSent : Obligations.LoopbackDeliversWhatIsSent := by
  unfold Obligations.LoopbackDeliversWhatIsSent
  intro s t len inv run idle loopback restarts empty searching taken border decided h busy total u
  obtain ⟨b, bps, pos, fits, accepted⟩ := exec_txFrame_started h idle busy
  have ranges := ((invariant_iff s).2 inv).toRanges
  obtain ⟨-, small, -, -⟩ := ranges.legal
  have bytes := fun j h => getElem_txPayload len s (j := j) h
  have length := length_txPayload len s
  generalize txPayload len s = p at accepted bytes length
  subst length
  obtain ⟨flags, rxLen, okCount, stored, kept, -, frame, before⟩ :=
    aFrameIsDeliveredExactlyOnce s b p ranges.mem.1 searching taken bps border pos fits small
  have symbol := fun k hk => lt_of_mem_frameSymbols bps (p := p) (k := k) hk
  have nonempty := length_frameSymbols_pos bps p
  generalize frameSymbols s.active b p = ks at *
  have ready : LoopbackReady ks s := ⟨loopback, run, restarts, fun k hk => decided k (symbol k hk)⟩
  have start := accepted ▸ ready.start empty
  have blocks : t.tx.items.length = ks.length := by rw [accepted, txAccept_tx]; exact List.length_map _
  have all : LoopedBackAll ks s u := by
    show LoopedBackAll ks s (iterate txStep (t.tx.items.length * s.active.n) t)
    rw [blocks]
    exact ready.after start ranges.n_pos nonempty
  have decoder := all.decoder
  refine ⟨all.idle, all.done, ?_, ?_, fun j hj => ?_, fun a outside => ?_, ?_, ?_, ?_, ?_, fun c hc => ?_⟩
  · rw [decoder.rxDone_eq, flags]
  · rw [decoder.rxLen_eq, rxLen]
  · rw [decoder.mem_eq, stored j hj, bytes j hj]
  · rw [decoder.mem_eq, kept a outside]
  · rw [decoder.rxOkCount_eq, okCount]
  · rw [decoder.rxFailCount_eq, frame]
  · rw [decoder.txo_eq, frame]
  · rw [all.count, blocks]
  · obtain ⟨i, j, hi, state⟩ := ready.during start ranges.n_pos (by rw [← blocks]; exact hc)
    have waiting := before i hi
    dsimp only at waiting
    have clear : (feedSymbols (ks.take i) s).flags.rxDone = false := by rw [waiting]; exact taken
    refine ⟨state.txStepEnabled (not_held_of_delivery clear (by rw [flags])), ?_, ?_, fun a => ?_⟩
    · rw [state.decoder.rxDone_eq, clear]
    · rw [state.decoder.rxOkCount_eq, waiting]
    · rw [state.decoder.mem_eq, waiting]

end Sys2Proof.Machine
end

section
/-! SUPPORT. The control commands (45_control_commands.md R234 to R244): the mask of the checks bit by bit, what the
clears leave, the registers an accepted command can change, and what every command does to the report of a refusal. -/

namespace Sys2Proof

/-- What a word decodes to if it matches no row (30_encoding.md R95). -/
theorem decodeRows_eq_illegal {rows : List OpcodeRow} {w : Word} (unmatched : ∀ i, decodeRows rows w ≠ .ok i) :
    decodeRows rows w = .error (.illegalCommand w) := by
  induction rows with
  | nil => rfl
  | cons r rest ih =>
    unfold decodeRows at unmatched ⊢
    split
    next hm => exact absurd (if_pos hm) (unmatched _)
    next hm => exact ih (by simpa only [if_neg hm] using unmatched)

namespace Machine

/-! ## NOP -/

/-- Settles O7: NOP answers its own state, its word is its encoding, and no other word below 2^24 matches a row. -/
theorem nopChangesNothing : Obligations.NopChangesNothing := by
  unfold Obligations.NopChangesNothing
  refine ⟨fun s => ⟨s, rfl, rfl, fun _ _ => rfl, fun _ => rfl⟩, fun w => ⟨fun h => ?_, fun h => ?_⟩,
    fun w opcode nonzero => decodeRows_eq_illegal ((decode_ne_ok_iff_toNat w).2 ?_)⟩
  · exact (wellFormed_and_encode_eq_of_decode h).2.symm
  · subst h; rfl
  · have value : w.toNat ≠ 0 := fun zero => nonzero (BitVec.eq_of_toNat_eq zero)
    omega

/-! ## The checks of CONFIGURE -/

/-- Each bit of the mask is one check (R237). -/
theorem Plan.checks_bits (p : Plan) :
    p.checks.getLsbD 0 = p.failsCount ∧ p.checks.getLsbD 1 = p.failsRate ∧ p.checks.getLsbD 2 = p.failsLength ∧
      p.checks.getLsbD 3 = p.failsBase ∧ p.checks.getLsbD 4 = p.failsStep ∧ p.checks.getLsbD 5 = p.failsNyquist ∧
      p.checks.getLsbD 6 = p.failsResolution ∧ p.checks.getLsbD 7 = false := by
  simp [Plan.checks]

theorem Plan.checks_toNat_lt (p : Plan) : p.checks.toNat < 128 := by
  obtain ⟨-, -, -, -, -, -, -, bit7⟩ := p.checks_bits
  have bound := BitVec.msb_eq_false_iff_two_mul_lt.1 ((BitVec.msb_eq_getLsbD_last p.checks).trans bit7)
  omega

/-- Settles O10: each bit is its check, each check decides its condition, and each example is evaluated. -/
theorem checksMaskShowsEveryFailure : Obligations.ChecksMaskShowsEveryFailure := by
  unfold Obligations.ChecksMaskShowsEveryFailure
  refine ⟨fun p => ?_, by decide⟩
  obtain ⟨bit0, bit1, bit2, bit3, bit4, bit5, bit6, bit7⟩ := p.checks_bits
  rw [bit0, bit1, bit2, bit3, bit4, bit5, bit6]
  refine ⟨?_, decide_eq_true_iff, decide_eq_true_iff, decide_eq_true_iff, decide_eq_true_iff, decide_eq_true_iff,
    decide_eq_true_iff, bit7⟩
  rw [Plan.failsCount, Bool.or_eq_true, decide_eq_true_iff, decide_eq_true_iff]
  rfl

/-! ## The registers an accepted command can change -/

/-- A register that reads the same need not be excepted. -/
theorem RegsKept.erase {except : List Reg} {s t : State} (h : RegsKept except s t) {r : Reg}
    (same : regRead t r = regRead s r) : RegsKept (except.erase r) s t := by
  intro q unlisted
  by_cases hq : q = r
  · rw [hq, same]
  · exact h q fun listed => unlisted ((List.mem_erase_of_ne hq).2 listed)

/-- Of the registers a command can change (`CommandFrame.regsKept`), those left to a command that reports no refusal,
counts no failure and keeps the engine's progress. -/
theorem CommandFrame.regsKept_of_accepted {s t : State} (h : CommandFrame s t) (err : t.err = s.err)
    (errCmd : t.errCmd = s.errCmd) (failCount : t.rxFailCount = s.rxFailCount)
    (txStatus : t.txStatusWord = s.txStatusWord) : RegsKept [.status, .rxStatus, .slipRemain, .fifoLevel] s t :=
  (((h.regsKept.erase (r := .err) err).erase (r := .errCmd) errCmd).erase (r := .rxFailCount) failCount).erase
    (r := .txStatus) txStatus

/-- The clear that spares a held packet changes nothing but the decoder (42_packet_codec.md R161). -/
theorem exists_decoderClearUnlessHeld_eq (s : State) :
    ∃ d, DecoderClearedUnlessHeld s.dec d ∧ decoderClearUnlessHeld s = { s with dec := d } := by
  obtain ⟨held, e⟩ | ⟨notHeld, e⟩ := decoderClearUnlessHeld_cases s
  · exact ⟨s.dec, ⟨fun _ => rfl, fun notHeld => absurd held notHeld⟩, e⟩
  · exact ⟨s.dec.cleared, ⟨fun held => absurd held notHeld, fun _ => decoderCleared_cleared s.dec⟩, e⟩

/-- Clearing the assembler and a decoder that holds no packet, as CONFIGURE, RX_START and RX_STOP do. -/
theorem exists_clears_eq (s : State) :
    ∃ d, DecoderClearedUnlessHeld s.dec d ∧
      decoderClearUnlessHeld (assemblerClear s) = { s with asm := s.asm.cleared, dec := d } :=
  exists_decoderClearUnlessHeld_eq (assemblerClear s)

/-- The clear that spares a held packet leaves `HOLD` as it is. -/
theorem DecoderClearedUnlessHeld.rxState_eq_doneHold_iff {d e : Decoder} (h : DecoderClearedUnlessHeld d e) :
    e.rxState = .doneHold ↔ d.rxState = .doneHold := by
  obtain ⟨kept, cleared⟩ := h
  by_cases held : d.rxState = .doneHold
  · rw [kept held]
  · obtain ⟨searching, -⟩ := cleared held
    simp [searching, held]

/-! ## CONFIGURE -/

theorem exec_configure_accepted {s : State} (idle : s.tx.busy = false) (stopped : s.rxRun = false)
    (legal : s.staging.checks = 0#8) :
    exec .configure s = .next (decoderClearUnlessHeld (assemblerClear
      { s with active := s.staging, cfgValid := true, tx := { s.tx with phase := 0 } })) := by
  simp [exec, execConfigure, idle, stopped, legal]

/-- Settles O8: the staged plan becomes active, and the clears have their frame. -/
theorem configureMakesALegalPlanActive : Obligations.ConfigureMakesALegalPlanActive := by
  unfold Obligations.ConfigureMakesALegalPlanActive
  intro s idle stopped legal
  obtain ⟨d, cleared, e⟩ :=
    exists_clears_eq { s with active := s.staging, cfgValid := true, tx := { s.tx with phase := 0 } }
  have accepted := (exec_configure_accepted idle stopped legal).trans (congrArg _ e)
  have regs := (exec_commandFrame (by decide) accepted).regsKept_of_accepted rfl rfl rfl rfl
  exact ⟨_, accepted, rfl, rfl, rfl, assemblerCleared_cleared s.asm, cleared, rfl,
    (regs.erase (r := .slipRemain) rfl).erase (r := .fifoLevel) rfl, fun _ => rfl⟩

/-- Settles O9: the first cause that holds is reported, by the numbers of the refusal. -/
theorem configureIsRefusedWhenBusyOrIllegal : Obligations.ConfigureIsRefusedWhenBusyOrIllegal := by
  unfold Obligations.ConfigureIsRefusedWhenBusyOrIllegal
  refine fun s => ⟨fun busy => ?_, fun idle stopped illegal => ?_⟩
  · have refused : exec .configure s = .next (cmdRefuse .busy 0#8 (encode .configure) s) := by
      simp [exec, execConfigure, busy]
    rw [refused, cmdRefuse_eq_refusedWith]
    rfl
  · have refused : exec .configure s = .next
        (cmdRefuse .configurationError s.staging.checks (encode .configure) { s with cfgValid := false }) := by
      simp [exec, execConfigure, idle, stopped, illegal]
    rw [refused, cmdRefuse_eq_refusedWith]
    rfl

/-! ## SOFT_RESET -/

/-- SOFT_RESET and `rst` leave the registers alike: both show an empty elastic buffer (R244). -/
theorem regRead_softReset (s : State) (r : Reg) : regRead (softReset s) r = regRead (hardReset s) r := by
  cases r with
  | fifoLevel =>
    have level : (softReset s).rlevel = (hardReset s).rlevel :=
      (ptrSub_self s.params.fifoLog2 s.fifo.wqR).trans (ptrSub_self s.params.fifoLog2 0).symm
    rw [regRead, State.fifoLevelWord, level]
    rfl
  | _ => rfl

/-- Settles O11: the registers are those after `rst`, and the rest is the power-on state with what is kept. -/
theorem softResetReturnsTheCoreToReset : Obligations.SoftResetReturnsTheCoreToReset := by
  unfold Obligations.SoftResetReturnsTheCoreToReset
  intro s
  have noFlag : decide (EventFlags.clear.bits &&& 0#6 ≠ 0#6) = false := by decide
  exact ⟨softReset s, rfl, fun r hr => (regRead_softReset s r).trans (regRead_hardReset s hr), rfl, noFlag, rfl, rfl,
    rfl, rfl, rfl, rfl, rfl, rfl, rfl, fun _ => rfl⟩

/-! ## The receive commands -/

theorem exec_rxStart_accepted {s : State} (valid : s.cfgValid = true) (stopped : s.rxRun = false) :
    exec .rxStart s =
      .next { decoderClearUnlessHeld (assemblerClear { s with fifo := s.fifo.flushed }) with rxRun := true } := by
  simp [exec, execRxStart, valid, stopped]

/-- Settles O17: a running receiver is left alone, a stopped one is flushed, cleared and started. -/
theorem rxStartStartsAnEmptyReceiver : Obligations.RxStartStartsAnEmptyReceiver := by
  unfold Obligations.RxStartStartsAnEmptyReceiver
  refine fun s valid => ⟨fun run => by simp [exec, execRxStart, valid, run], fun stopped => ?_⟩
  obtain ⟨d, cleared, e⟩ := exists_clears_eq { s with fifo := s.fifo.flushed }
  have accepted := exec_rxStart_accepted valid stopped
  rw [e] at accepted
  have regs := (exec_commandFrame (by decide) accepted).regsKept_of_accepted rfl rfl rfl rfl
  refine ⟨_, accepted, rfl, rfl, assemblerCleared_cleared s.asm, cleared, rfl, ?_,
    regs.erase (r := .slipRemain) rfl, fun _ => rfl⟩
  exact congrArg (fun level => bitField 32 0 (BitVec.ofNat 13 level)) (ptrSub_self s.params.fifoLog2 s.fifo.wqR)

/-- Settles O18: both commands are their clears; RX_RESYNC keeps `STATUS` too, since a held packet stays held. -/
theorem rxStopAndRxResyncClearTheReceiver : Obligations.RxStopAndRxResyncClearTheReceiver := by
  unfold Obligations.RxStopAndRxResyncClearTheReceiver
  refine fun s => ⟨?stop, ?resync⟩
  case stop =>
    obtain ⟨d, cleared, e⟩ := exists_clears_eq { s with rxRun := false }
    have accepted : exec .rxStop s = .next _ := congrArg Host.Outcome.next e
    have regs := (exec_commandFrame (by decide) accepted).regsKept_of_accepted rfl rfl rfl rfl
    exact ⟨_, accepted, rfl, assemblerCleared_cleared s.asm, cleared, rfl,
      (regs.erase (r := .slipRemain) rfl).erase (r := .fifoLevel) rfl, fun _ => rfl⟩
  case resync =>
    obtain ⟨d, cleared, e⟩ := exists_decoderClearUnlessHeld_eq s
    have accepted : exec .rxResync s = .next _ := congrArg Host.Outcome.next e
    have regs := (exec_commandFrame (by decide) accepted).regsKept_of_accepted rfl rfl rfl rfl
    have status : regRead { s with dec := d } .status = regRead s .status := by
      have hold : State.holding { s with dec := d } = s.holding :=
        decide_eq_decide.2 cleared.rxState_eq_doneHold_iff
      simp only [regRead, State.statusWord, hold]
      rfl
    exact ⟨_, accepted, cleared, rfl,
      ((regs.erase status).erase (r := .slipRemain) rfl).erase (r := .fifoLevel) rfl, fun _ => rfl⟩

/-- Settles O19: the assembler is cleared around the new count. -/
theorem rxSlipReplacesTheSlipCount : Obligations.RxSlipReplacesTheSlipCount := by
  unfold Obligations.RxSlipReplacesTheSlipCount
  intro s count fits
  have accepted : exec (.rxSlip count) s = .next _ := rfl
  have regs := (exec_commandFrame (by simp) accepted).regsKept_of_accepted rfl rfl rfl rfl
  exact ⟨_, accepted, Nat.mod_eq_of_lt fits, assemblerCleared_cleared { s.asm with slipRemain := slipCount count },
    rfl, BitVec.setWidth_ofNat_of_le_of_lt (by decide) fits,
    ((regs.erase (r := .status) rfl).erase (r := .rxStatus) rfl).erase (r := .fifoLevel) rfl, fun _ => rfl⟩

/-! ## The report of a refusal -/

/-- `t` reports the refusal that `s` does: `ERR`, `ERR_CMD` and `CMD_ERR` are unchanged. -/
structure ReportKept (s t : State) : Prop where
  err : t.err = s.err
  errCmd : t.errCmd = s.errCmd
  cmdErr : t.flags.cmdErr = s.flags.cmdErr

/-- `t` is `s` with a refusal of `w` taken: a code from 1 to 7, a detail with code 4 alone, and then no configuration
(60_exceptions.md R260, R266). -/
def Refused (w : Word) (s t : State) : Prop :=
  ∃ code detail : Nat, 1 ≤ code ∧ code ≤ 7 ∧ detail < 128 ∧ (code = 4 ↔ detail ≠ 0) ∧
    t = { refusedWith w code detail s with cfgValid := s.cfgValid && decide (code ≠ 4) }

/-- The codes without a detail that a command can raise. -/
abbrev ErrCode.Plain (code : ErrCode) : Prop :=
  code ≠ .none ∧ code ≠ .configurationError ∧ code ≠ .insufficientBuffer

theorem ErrCode.Plain.code_range {code : ErrCode} (plain : code.Plain) :
    1 ≤ code.code.toNat ∧ code.code.toNat ≤ 7 ∧ code.code.toNat ≠ 4 := by
  revert plain
  cases code <;> decide

/-- A refusal without a detail, with a code that is raised at all. -/
theorem refused_of_plain {code : ErrCode} (w : Word) (s : State) (plain : code.Plain := by decide) :
    Refused w s (cmdRefuse code 0#8 w s) := by
  obtain ⟨pos, le, ne⟩ := plain.code_range
  refine ⟨code.code.toNat, 0, pos, le, by decide, by simp [ne], ?_⟩
  rw [cmdRefuse_eq_refusedWith]
  simp [ne, refusedWith]

/-- CONFIGURATION_ERROR reports the mask and leaves no configuration (R236). -/
theorem refused_of_checks {s : State} (illegal : s.staging.checks ≠ 0#8) (w : Word) :
    Refused w s (cmdRefuse .configurationError s.staging.checks w { s with cfgValid := false }) := by
  have mask : s.staging.checks.toNat ≠ 0 := fun zero => illegal (BitVec.eq_of_toNat_eq zero)
  refine ⟨4, s.staging.checks.toNat, by decide, by decide, s.staging.checks_toNat_lt, by simp [mask], ?_⟩
  rw [cmdRefuse_eq_refusedWith]
  simp [refusedWith, ErrCode.code]

theorem decoderClearUnlessHeld_reportKept (s : State) : ReportKept s (decoderClearUnlessHeld s) := by
  obtain ⟨d, -, e⟩ := exists_decoderClearUnlessHeld_eq s
  rw [e]
  exact ⟨rfl, rfl, rfl⟩

/-- A clear after changes that keep the report keeps it too. -/
theorem clears_reportKept {s u : State} (h : ReportKept s u) :
    ReportKept s (decoderClearUnlessHeld (assemblerClear u)) := by
  obtain ⟨d, -, e⟩ := exists_clears_eq u
  rw [e]
  exact ⟨h.err, h.errCmd, h.cmdErr⟩

theorem txAccept_reportKept (items : List TxItem) (s : State) : ReportKept s (txAccept items s) := by
  rw [(txAccept_acceptFrame items s).equation]
  exact ⟨rfl, rfl, rfl⟩

section
variable {s t : State}

theorem execTxFrame_reportKept_or_refused {len : Nat} (h : execTxFrame len s = .next t) :
    ReportKept s t ∨ Refused (encode (.txFrame len)) s t := by
  simp only [execTxFrame] at h
  split at h
  · cases h; exact .inr (refused_of_plain _ s)
  split at h
  · cases h; exact .inr (refused_of_plain _ s)
  split at h
  · cases h; exact .inr (refused_of_plain _ s)
  split at h <;> cases h
  · exact .inr (refused_of_plain _ s)
  · exact .inl (txAccept_reportKept _ s)

theorem execTxSymbol_reportKept_or_refused {sym : Nat} (h : execTxSymbol sym s = .next t) :
    ReportKept s t ∨ Refused (encode (.txSymbol sym)) s t := by
  simp only [execTxSymbol] at h
  split at h
  · cases h; exact .inr (refused_of_plain _ s)
  split at h
  · cases h; exact .inr (refused_of_plain _ s)
  split at h <;> cases h
  · exact .inr (refused_of_plain _ s)
  · exact .inl (txAccept_reportKept _ s)

theorem execTxSilence_reportKept_or_refused (h : execTxSilence s = .next t) :
    ReportKept s t ∨ Refused (encode .txSilence) s t := by
  simp only [execTxSilence] at h
  split at h
  · cases h; exact .inr (refused_of_plain _ s)
  split at h <;> cases h
  · exact .inr (refused_of_plain _ s)
  · exact .inl (txAccept_reportKept _ s)

theorem execConfigure_reportKept_or_refused (h : execConfigure s = .next t) :
    ReportKept s t ∨ Refused (encode .configure) s t := by
  simp only [execConfigure] at h
  split at h
  · cases h; exact .inr (refused_of_plain _ s)
  split at h <;> cases h
  next illegal => exact .inr (refused_of_checks illegal _)
  next => exact .inl (clears_reportKept ⟨rfl, rfl, rfl⟩)

theorem execRxStart_reportKept_or_refused (h : execRxStart s = .next t) :
    ReportKept s t ∨ Refused (encode .rxStart) s t := by
  simp only [execRxStart] at h
  split at h
  · cases h; exact .inr (refused_of_plain _ s)
  split at h <;> cases h
  · exact .inl ⟨rfl, rfl, rfl⟩
  · have cleared : ReportKept s (decoderClearUnlessHeld (assemblerClear { s with fifo := s.fifo.flushed })) :=
      clears_reportKept ⟨rfl, rfl, rfl⟩
    exact .inl ⟨cleared.err, cleared.errCmd, cleared.cmdErr⟩

/-- Every command but SOFT_RESET keeps the report of the last refusal or is refused itself (R230, R266). -/
theorem exec_reportKept_or_refused {i : Instr} (hi : i ≠ .softReset) (h : exec i s = .next t) :
    ReportKept s t ∨ Refused (encode i) s t := by
  cases i with
  | softReset => exact absurd rfl hi
  | txFrame len => exact execTxFrame_reportKept_or_refused h
  | txSymbol sym => exact execTxSymbol_reportKept_or_refused h
  | txSilence => exact execTxSilence_reportKept_or_refused h
  | configure => exact execConfigure_reportKept_or_refused h
  | rxStart => exact execRxStart_reportKept_or_refused h
  | nop => cases h; exact .inl ⟨rfl, rfl, rfl⟩
  | txAbort =>
    simp only [exec, execTxAbort] at h
    split at h <;> cases h <;> exact .inl ⟨rfl, rfl, rfl⟩
  | rxStop => cases h; exact .inl (clears_reportKept ⟨rfl, rfl, rfl⟩)
  | rxResync => cases h; exact .inl (decoderClearUnlessHeld_reportKept s)
  | rxSlip count => cases h; exact .inl ⟨rfl, rfl, rfl⟩

end

/-- Settles O20: a word that decodes is the encoding of its command, and one that does not is refused with code 1. -/
theorem refusalsArePrecise : Obligations.RefusalsArePrecise := by
  unfold Obligations.RefusalsArePrecise
  intro w s t h
  cases word : decode w with
  | error _ =>
    rw [cmdWrite, word] at h
    cases h
    exact .inr (.inr (refused_of_plain w s))
  | ok i =>
    rw [cmdWrite_of_decode_eq_ok word] at h
    obtain ⟨-, rfl⟩ := wellFormed_and_encode_eq_of_decode word
    by_cases hi : i = .softReset
    · exact .inr (.inl (by rw [hi]; rfl))
    · obtain ⟨err, errCmd, cmdErr⟩ | refused := exec_reportKept_or_refused hi h
      · exact .inl ⟨err, errCmd, cmdErr⟩
      · exact .inr (.inr refused)

end Machine
end Sys2Proof
end

section
/-! SUPPORT. The exceptions of GLFSK (60_exceptions.md): a refusal and a bus error are next states (R280), the causes of
a refusal come in one order (R265), the interrupt line is a level (R272), and a decoder failure is not surfaced
(R269). -/

namespace Sys2Proof.Machine

/-! ## Every step is defined -/

/-- A host write completes: one of a register as `RegWrite` does, and any other with its answer alone. -/
theorem hostWrite_next (off : BitVec 12) (size : BitVec 2) (d : Word) (s : State) :
    ∃ t, hostWrite off size d s = .next t := by
  obtain ⟨r, -, -, e⟩ | e | ⟨m, e⟩ := hostWrite_cases off size d s
  · obtain ⟨t, written, -⟩ := regWrite_bus d (answerWrite s) r
    exact ⟨t, e.trans written⟩
  · exact ⟨_, e⟩
  · exact ⟨_, e⟩

/-- Every event completes: all agents but the host's write answer a next state by their form. -/
theorem runEvent_next (e : Event) (s : State) : ∃ t, runEvent e s = .next t := by
  cases e with
  | hostWrite off size d => exact hostWrite_next off size d s
  | syncW2R => exact ⟨_, rfl⟩
  | syncR2W => exact ⟨_, rfl⟩
  | hostRead off size => exact ⟨_, rfl⟩
  | srcPush x => exact ⟨_, rfl⟩
  | txStep => exact ⟨_, rfl⟩
  | rxPop => exact ⟨_, rfl⟩
  | deliverHeld => exact ⟨_, rfl⟩
  | rst => exact ⟨_, rfl⟩

/-- Settles O6: a step is an event's, and every event completes. -/
theorem everyStepAnswersANextState : Obligations.EveryStepAnswersANextState := by
  unfold Obligations.EveryStepAnswersANextState
  exact ⟨runEvent_next, fun s => runEvent_next (nextEvent s) (takeEvent s)⟩

/-! ## The first cause of a refusal -/

/-- A refusal without a detail, as an outcome and by its numbers (R266). -/
theorem next_cmdRefuse (code : ErrCode) (w : Word) (s : State) :
    (.next (cmdRefuse code 0#8 w s) : Host.Outcome State Fault Refusal) =
      .next (refusedWith w code.code.toNat 0 s) :=
  congrArg _ (cmdRefuse_eq_refusedWith code 0#8 w s)

/-- The commands that start a transmission. -/
def IsTransmitCommand (i : Instr) : Prop := i = .txSilence ∨ (∃ len, i = .txFrame len) ∨ ∃ sym, i = .txSymbol sym

section
variable {s : State} {i : Instr}

theorem exec_of_busy (h : IsTransmitCommand i) (busy : s.tx.busy = true) :
    exec i s = .next (refusedWith (encode i) 2 0 s) := by
  refine Eq.trans ?_ (next_cmdRefuse .busy (encode i) s)
  obtain rfl | ⟨len, rfl⟩ | ⟨sym, rfl⟩ := h
  · exact if_pos busy
  · exact if_pos busy
  · exact if_pos busy

theorem exec_of_not_configured (h : IsTransmitCommand i) (idle : s.tx.busy = false) (invalid : s.cfgValid = false) :
    exec i s = .next (refusedWith (encode i) 3 0 s) := by
  refine Eq.trans ?_ (next_cmdRefuse .notConfigured (encode i) s)
  obtain rfl | ⟨len, rfl⟩ | ⟨sym, rfl⟩ := h
  · simp [exec, execTxSilence, idle, invalid]
  · simp [exec, execTxFrame, idle, invalid]
  · simp [exec, execTxSymbol, idle, invalid]

theorem exec_rxStart_of_not_configured (invalid : s.cfgValid = false) :
    exec .rxStart s = .next (refusedWith (encode .rxStart) 3 0 s) :=
  (if_pos invalid).trans (next_cmdRefuse .notConfigured (encode .rxStart) s)

/-- Framing is supported for 2, 4 and 16 tones alone (30_encoding.md R102). -/
theorem Plan.bps_eq_none_iff (p : Plan) : p.bps = none ↔ p.m ≠ 2 ∧ p.m ≠ 4 ∧ p.m ≠ 16 := by
  simp only [Plan.bps, ite_eq_iff, reduceCtorEq, and_false, and_true, false_or]

section
variable (idle : s.tx.busy = false) (valid : s.cfgValid = true)
include idle valid

theorem exec_txFrame_of_unsupported (len : Nat) (unsupported : s.active.bps = none) :
    exec (.txFrame len) s = .next (refusedWith (encode (.txFrame len)) 5 0 s) := by
  refine Eq.trans ?_ (next_cmdRefuse .framingUnsupported _ s)
  simp [exec, execTxFrame, idle, valid, unsupported]

theorem exec_txFrame_of_length {len : Nat} (supported : s.active.bps ≠ none)
    (illegal : len = 0 ∨ s.params.maxPayload < len) :
    exec (.txFrame len) s = .next (refusedWith (encode (.txFrame len)) 6 0 s) := by
  obtain ⟨b, bps⟩ := Option.ne_none_iff_exists'.1 supported
  refine Eq.trans ?_ (next_cmdRefuse .invalidLength _ s)
  simp [exec, execTxFrame, idle, valid, bps, illegal]

theorem exec_txSymbol_of_symbol {sym : Nat} (illegal : s.active.m ≤ sym) :
    exec (.txSymbol sym) s = .next (refusedWith (encode (.txSymbol sym)) 7 0 s) := by
  refine Eq.trans ?_ (next_cmdRefuse .invalidSymbol _ s)
  simp [exec, execTxSymbol, idle, valid, illegal]

end

end

/-- Settles O15: one lemma for each cause, in the order of R265. -/
theorem refusalsReportTheFirstCause : Obligations.RefusalsReportTheFirstCause := by
  unfold Obligations.RefusalsReportTheFirstCause
  refine fun s => ⟨fun i _ transmits => ⟨exec_of_busy transmits, exec_of_not_configured transmits⟩,
    exec_rxStart_of_not_configured, fun len sym idle valid => ⟨fun two four sixteen => ?_, fun framed => ?_,
      exec_txSymbol_of_symbol idle valid⟩⟩
  · exact exec_txFrame_of_unsupported idle valid len ((Plan.bps_eq_none_iff _).2 ⟨two, four, sixteen⟩)
  · refine exec_txFrame_of_length idle valid fun unsupported => ?_
    obtain ⟨two, four, sixteen⟩ := (Plan.bps_eq_none_iff _).1 unsupported
    exact framed.elim two (Or.elim · four sixteen)

/-! ## The interrupt line -/

/-- The line is up exactly when an event flag and its enable are (R272). -/
theorem irq_iff_flag (s : State) :
    s.irq = true ↔ ∃ i, i < 6 ∧ s.flags.bits.getLsbD i = true ∧ s.irqEn.getLsbD i = true := by
  rw [State.irq, decide_eq_true_iff, Ne, BitVec.zero_iff_eq_false, not_forall]
  refine exists_congr fun i => ?_
  rw [BitVec.getLsbD_and, Bool.not_eq_false, Bool.and_eq_true]
  exact ⟨fun h => ⟨BitVec.lt_of_getLsbD h.1, h⟩, And.right⟩

/-- The flags and the enables stand at bits 13:8 of the registers a host reads (10_state.md R27, R28). -/
theorem irq_iff_status (s : State) :
    s.irq = true ↔
      ∃ i, 8 ≤ i ∧ i ≤ 13 ∧ (regRead s .status).getLsbD i = true ∧ (regRead s .irqEn).getLsbD i = true := by
  rw [irq_iff_flag]
  constructor
  · rintro ⟨i, hi, flag, enabled⟩
    exact ⟨8 + i, by omega, by omega, (statusWord_flags s i hi).trans flag, (irqEnWord_bit s i hi).trans enabled⟩
  · rintro ⟨i, low, high, flag, enabled⟩
    obtain ⟨j, rfl⟩ := Nat.exists_eq_add_of_le low
    have hj : j < 6 := by omega
    exact ⟨j, hj, (statusWord_flags s j hj).symm.trans flag, (irqEnWord_bit s j hj).symm.trans enabled⟩

/-- The mask of `IRQ_EN` keeps the enables (20_memory.md R80). -/
theorem getLsbD_and_irqEnMask (d : Word) {i : Nat} (low : 8 ≤ i) (high : i ≤ 13) :
    (d &&& 0x00003F00#32).getLsbD i = d.getLsbD i := by
  have kept : ∀ j ≤ 13, 8 ≤ j → (0x00003F00#32).getLsbD j = true := by decide
  rw [BitVec.getLsbD_and, kept i high low, Bool.and_true]

/-- Settles O28: a write to `IRQ_EN` replaces the enables and leaves `STATUS` as it reads. -/
theorem interruptLineIsTheEnabledFlags : Obligations.InterruptLineIsTheEnabledFlags := by
  unfold Obligations.InterruptLineIsTheEnabledFlags
  refine ⟨irq_iff_status, fun s t d h => ?_⟩
  rw [hostWrite_register] at h
  have status : regRead t .status = regRead s .status :=
    regWrite_answerWrite_regsKept (r := .irqEn) nofun h .status (by decide)
  have irqEn : regRead t .irqEn = d &&& 0x00003F00#32 := regRead_regWrite_same rfl h
  rw [irq_iff_status, status, irqEn]
  refine exists_congr fun i => and_congr_right fun low => and_congr_right fun high => ?_
  rw [getLsbD_and_irqEnMask d low high]

/-! ## Decoder failures -/

/-- `t` differs from `s` at most in the decoder and the failure count: no failure is surfaced (R269). -/
def Unsurfaced (s t : State) : Prop := t = { s with dec := t.dec, rxFailCount := t.rxFailCount }

theorem Unsurfaced.equation {s t : State} (h : Unsurfaced s t) :
    t = { s with dec := t.dec, rxFailCount := t.rxFailCount } := h

/-- A step that changes the decoder alone. -/
theorem Unsurfaced.of_dec {s t : State} {d : Decoder} (h : t = { s with dec := d }) : Unsurfaced s t := by
  rw [h]
  rfl

theorem Unsurfaced.irq_eq {s t : State} (h : Unsurfaced s t) : t.irq = s.irq :=
  (congrArg State.irq h.equation).trans rfl

theorem Unsurfaced.memKept {s t : State} (h : Unsurfaced s t) : MemKept s t :=
  fun a => (congrArg (fun z : State => z.mem.read a) h.equation).trans rfl

theorem Unsurfaced.trans {s t u : State} (h : Unsurfaced s t) (h' : Unsurfaced t u) : Unsurfaced s u :=
  h'.equation.trans (congrArg (fun z : State => { z with dec := u.dec, rxFailCount := u.rxFailCount }) h.equation)

/-- What the decoder does either is not surfaced or is counted as a delivery (R198). -/
def UnsurfacedOrDelivered (s t : State) : Prop := Unsurfaced s t ∨ t.rxOkCount = s.rxOkCount + 1#32

/-- A completed packet is held or delivered (42_packet_codec.md R169). -/
theorem packetDone_unsurfacedOrDelivered (s : State) : UnsurfacedOrDelivered s (packetDone s) := by
  unfold packetDone
  split
  · exact .inl rfl
  · exact .inr rfl

theorem BitEffect.unsurfacedOrDelivered {accept : RxState → Prop} {s : State} {r : State × BitOutcome}
    (h : BitEffect accept s r) : UnsurfacedOrDelivered s r.1 := by
  cases h with
  | accepted _ => exact .inl rfl
  | failed _ => exact .inl rfl
  | completed _ =>
    obtain held | delivered := packetDone_unsurfacedOrDelivered { s with dec := _ }
    · exact .inl (held.equation.trans rfl)
    · exact .inr delivered

theorem decoderBit_unsurfacedOrDelivered (v : Bool) (s : State) : UnsurfacedOrDelivered s (decoderBit v s).1 := by
  by_cases searching : s.dec.rxState = .seekStart
  · have found : decoderBit v s = (seekStartBit v s, .more) := by simp only [decoderBit, searching]
    rw [found]
    exact .inl (.of_dec (decoderBit_more_frame found))
  · exact (decoderBit_effect searching v).unsurfacedOrDelivered

/-- Only the last bit fed can deliver, since a delivery stops the feeding (R163). -/
theorem feedBits_unsurfacedOrDelivered (vs : List Bool) (s : State) : UnsurfacedOrDelivered s (feedBits vs s) := by
  induction vs generalizing s with
  | nil => exact .inl rfl
  | cons v vs ih =>
    rw [feedBits]
    split
    next t e =>
      have first : Unsurfaced s t := .of_dec (decoderBit_more_frame e)
      have counted : t.rxOkCount = s.rxOkCount := (congrArg State.rxOkCount first.equation).trans rfl
      obtain rest | delivered := ih t
      · exact .inl (first.trans rest)
      · exact .inr (counted ▸ delivered)
    next t e =>
      have bit := decoderBit_unsurfacedOrDelivered v s
      rwa [e] at bit

theorem decoderFeed_unsurfacedOrDelivered (kind : DetKind) (k1 : Nat) (s : State) :
    UnsurfacedOrDelivered s (decoderFeed kind k1 s) := by
  unfold decoderFeed
  split
  · exact .inl rfl
  split
  · exact .inl rfl
  · exact feedBits_unsurfacedOrDelivered _ s
  · exact .inl rfl
  · exact .inl rfl

/-- The failure a pause causes is not surfaced either: the cleared assembler apart (44_send_path.md R213). -/
theorem pauseEnter_unsurfaced (s : State) : Unsurfaced { s with asm := (pauseEnter s).asm } (pauseEnter s) := by
  have frame := (pauseEnter_acceptFrame s).equation
  rwa [(pauseEnter_frame s).tx_eq] at frame

/-- Settles O45: a delivery would be counted, and all else that the decoder and the pause do is not surfaced. -/
theorem decoderFailuresAreNotSurfaced : Obligations.DecoderFailuresAreNotSurfaced := by
  unfold Obligations.DecoderFailuresAreNotSurfaced
  refine ⟨fun kind k1 s uncounted => ?feed, fun s => ?pause⟩
  case feed =>
    obtain kept | delivered := decoderFeed_unsurfacedOrDelivered kind k1 s
    · exact ⟨kept, kept.irq_eq, kept.memKept⟩
    · rw [uncounted] at delivered
      exact absurd delivered (by simp)
  case pause =>
    have kept := pauseEnter_unsurfaced s
    exact ⟨kept, kept.irq_eq, kept.memKept⟩

end Sys2Proof.Machine
end

section
/-! SUPPORT. Running until quiescent (70_reset_and_hazards.md R306): the work the core still has in a state, that every
core step takes some of it, and that no core step is left exactly in a quiescent state. -/

namespace Sys2Proof.Machine

/-! ## A core step takes a sample from the engine or from the buffer -/

/-- A transmit step, wherever its sample goes, is the engine's advance in a state with the same engine but for the
phase, the same configuration and the same buffer (40_tone_synthesizer.md R121). -/
theorem exists_txStep_eq_txAdvance (s : State) :
    ∃ u, txStep s = txAdvance u ∧ EngineKept (txSampled s) u ∧ u.fifo = s.fifo := by
  refine ⟨_, rfl, ?_⟩
  split
  · have frame := loopbackIn_frame (txSample s) (txSampled s)
    exact ⟨frame.engineKept, frame.fifo_eq⟩
  · exact ⟨⟨rfl, rfl⟩, rfl⟩

theorem txAdvance_fifo (s : State) : (txAdvance s).fifo = s.fifo := by
  obtain ⟨-, e⟩ | ⟨-, -, e⟩ | ⟨-, -, e⟩ := txAdvance_cases s <;> rw [e]

theorem txStep_fifo (s : State) : (txStep s).fifo = s.fifo := by
  obtain ⟨u, e, -, fifo⟩ := exists_txStep_eq_txAdvance s
  rw [e, txAdvance_fifo, fifo]

/-- The advance of a busy engine within its ranges takes one from the number of samples it owes. -/
theorem length_txRemaining_txAdvance {s : State} (busy : s.tx.busy = true)
    (block : s.tx.blockIdx < s.tx.items.length) (sample : s.tx.sampleIdx < s.active.n) :
    (txRemaining (txAdvance s)).length + 1 = (txRemaining s).length := by
  obtain ⟨-, e⟩ | ⟨last, more, e⟩ | ⟨last, ended, e⟩ := txAdvance_cases s <;>
    simp only [e, length_txRemaining, busy, if_true, List.length_drop]
  · omega
  · -- the next block is the first of those that were to follow
    have blocks : s.tx.items.length - (s.tx.blockIdx + 1) = s.tx.items.length - (s.tx.blockIdx + 1 + 1) + 1 := by omega
    rw [blocks, Nat.succ_mul]
    omega
  · -- the engine is idle and owes nothing
    rw [ended, Nat.sub_self, Nat.zero_mul]
    simp only [TxEngine.idle, TxEngine.reset, Bool.false_eq_true, if_false]
    omega

/-- A transmit step of a busy engine takes one from the number of samples it owes, in loopback too. -/
theorem length_txRemaining_txStep {s : State} (h : s.Invariant) (busy : s.tx.busy = true) :
    (txRemaining (txStep s)).length + 1 = (txRemaining s).length := by
  obtain ⟨-, -, -, running, -⟩ := h.tx
  obtain ⟨block, sample⟩ := running busy
  obtain ⟨u, e, kept, -⟩ := exists_txStep_eq_txAdvance s
  have owed : (txRemaining (txSampled s)).length = (txRemaining s).length := by
    rw [length_txRemaining, length_txRemaining]
    rfl
  rw [e, ← owed, ← kept.length_txRemaining_eq]
  exact length_txRemaining_txAdvance (kept.tx ▸ busy) (kept.tx ▸ block) (kept.tx ▸ kept.active ▸ sample)

theorem rxPop_engineKept (s : State) : EngineKept s (rxPop s) := by
  obtain ⟨-, e⟩ | ⟨-, e⟩ := rxPop_cases s <;> rw [e]
  · exact (assemble_frame _ _).engineKept.after ⟨rfl, rfl⟩
  · exact ⟨rfl, rfl⟩

/-- An enabled pop takes one from the occupancy: a sample the core domain sees is stored (43_capture_pipeline.md
R186, R187). -/
theorem occupancy_rxPop {s : State} (h : s.Invariant) (enabled : rxPopEnabled s = true) :
    (rxPop s).occupancy + 1 = s.occupancy := by
  obtain ⟨seen, -⟩ := (rxPopEnabled_iff s).1 enabled
  rw [State.occupancy, rxPop_fifo, (rxPop_configKept s).params]
  exact ptrSub_ptrNext_right h.fifo.wptr h.fifo.rptr (h.fifo.wptr_ne_rptr seen)

/-! ## The work left to the core -/

/-- 1 while the core domain's copy of the write pointer is out of date, else 0. -/
def staleWrite (s : State) : Nat := (decide (s.fifo.wqR ≠ s.fifo.wptr)).toNat

/-- 1 while the sample domain's copy of the read pointer is out of date, else 0. -/
def staleRead (s : State) : Nat := (decide (s.fifo.rqW ≠ s.fifo.rptr)).toNat

/-- The work that moves no sample: a held packet and the pointer copies that are out of date. -/
def sampleFreeWork (s : State) : Nat := s.holding.toNat + staleWrite s + staleRead s

/-- The work left to the core. A transmitted sample may complete a packet that is then held, and a popped sample may
besides leave a copy of the read pointer out of date: so they count for two and for three. -/
def coreWork (s : State) : Nat := 2 * (txRemaining s).length + 3 * s.occupancy + sampleFreeWork s

/-- A step that moves no sample takes work when it takes sample-free work. -/
theorem coreWork_lt_of_kept {s t : State} (kept : EngineKept s t) (occupancy : t.occupancy = s.occupancy)
    (less : sampleFreeWork t < sampleFreeWork s) : coreWork t < coreWork s := by
  rw [coreWork, coreWork, kept.length_txRemaining_eq, occupancy]
  omega

theorem coreWork_txStep_lt {s : State} (h : s.Invariant) (enabled : txStepEnabled s = true) :
    coreWork (txStep s) < coreWork s := by
  obtain ⟨busy, -⟩ := Bool.and_eq_true_iff.1 enabled
  have owed := length_txRemaining_txStep h busy
  have occupancy : (txStep s).occupancy = s.occupancy := by
    rw [State.occupancy, txStep_fifo, (txStep_configKept s).params, State.occupancy]
  have held := Bool.toNat_le (txStep s).holding
  simp only [coreWork, sampleFreeWork, staleWrite, staleRead, txStep_fifo, occupancy]
  omega

theorem coreWork_rxPop_lt {s : State} (h : s.Invariant) (enabled : rxPopEnabled s = true) :
    coreWork (rxPop s) < coreWork s := by
  have occupancy := occupancy_rxPop h enabled
  have written : staleWrite (rxPop s) = staleWrite s := by rw [staleWrite, rxPop_fifo, staleWrite]
  have held := Bool.toNat_le (rxPop s).holding
  have read : staleRead (rxPop s) ≤ 1 := Bool.toNat_le _
  simp only [coreWork, sampleFreeWork, (rxPop_engineKept s).length_txRemaining_eq, written]
  omega

theorem coreWork_deliver_lt {s : State} (held : s.dec.rxState = .doneHold) : coreWork (deliver s) < coreWork s := by
  have before : s.holding = true := (holding_iff s).2 held
  refine coreWork_lt_of_kept ⟨rfl, rfl⟩ rfl ?_
  show 0 + staleWrite s + staleRead s < s.holding.toNat + staleWrite s + staleRead s
  rw [before, Bool.toNat_true]
  omega

theorem coreWork_syncW2R_lt {s : State} (h : s.Invariant) (behind : s.fifo.wqR ≠ s.fifo.wptr) :
    coreWork (syncW2R s) < coreWork s := by
  have before : staleWrite s = 1 := by simp [staleWrite, behind]
  have after : staleWrite (syncW2R s) = 0 := by simp [staleWrite, syncW2R_eq h.fifo.wptr]
  refine coreWork_lt_of_kept ⟨rfl, rfl⟩ rfl ?_
  show s.holding.toNat + staleWrite (syncW2R s) + staleRead s < s.holding.toNat + staleWrite s + staleRead s
  omega

theorem coreWork_syncR2W_lt {s : State} (h : s.Invariant) (behind : s.fifo.rqW ≠ s.fifo.rptr) :
    coreWork (syncR2W s) < coreWork s := by
  have before : staleRead s = 1 := by simp [staleRead, behind]
  have after : staleRead (syncR2W s) = 0 := by simp [staleRead, syncR2W_eq h.fifo.rptr]
  refine coreWork_lt_of_kept ⟨rfl, rfl⟩ rfl ?_
  show s.holding.toNat + staleWrite s + staleRead (syncR2W s) < s.holding.toNat + staleWrite s + staleRead s
  omega

theorem runEvent_rxPop_of_enabled {s : State} (enabled : rxPopEnabled s = true) :
    runEvent .rxPop s = .next (rxPop s) := by
  simp [runEvent, enabled]

/-- Every core step takes some of the work. -/
theorem CoreStep.coreWork_lt {s t : State} (step : CoreStep s t) (h : s.Invariant) : coreWork t < coreWork s := by
  obtain ⟨e, core, enabled, taken, newW, newR⟩ := step
  cases e with
  | txStep =>
    cases (runEvent_txStep_of_enabled enabled).symm.trans taken
    exact coreWork_txStep_lt h enabled
  | rxPop =>
    cases (runEvent_rxPop_of_enabled enabled).symm.trans taken
    exact coreWork_rxPop_lt h enabled
  | deliverHeld =>
    cases (runEvent_deliverHeld_of_enabled enabled).symm.trans taken
    exact coreWork_deliver_lt ((deliverHeldEnabled_iff s).1 enabled).1
  | syncW2R => cases taken; exact coreWork_syncW2R_lt h (newW rfl)
  | syncR2W => cases taken; exact coreWork_syncR2W_lt h (newR rfl)
  | hostRead | hostWrite | srcPush | rst => cases core

theorem CoreStep.invariant {s t : State} (step : CoreStep s t) (h : s.Invariant) : t.Invariant := by
  obtain ⟨e, -, -, taken, -⟩ := step
  exact h.runEvent taken

/-! ## Quiescence -/

/-- From the invariant the core steps come to an end: the work left to the core cannot fall for ever. -/
theorem not_forall_coreStep {run : Nat → State} (h : (run 0).Invariant) :
    ¬ ∀ i, CoreStep (run i) (run (i + 1)) := by
  intro steps
  have invariant : ∀ i, (run i).Invariant := fun i => by
    induction i with
    | zero => exact h
    | succ i ih => exact (steps i).invariant ih
  exact not_strictAnti_of_wellFoundedLT (fun i => coreWork (run i))
    (strictAnti_nat_of_succ_lt fun i => (steps i).coreWork_lt (invariant i))

/-- An enabled event of the core is a core step, where a synchronizer has a new pointer to copy. -/
theorem exists_coreStep {s : State} {e : Event} (core : eventOfCore e = true) (enabled : eventEnabled e s = true)
    (newW : e = .syncW2R → s.fifo.wqR ≠ s.fifo.wptr) (newR : e = .syncR2W → s.fifo.rqW ≠ s.fifo.rptr) :
    ∃ t, CoreStep s t := by
  obtain ⟨t, taken⟩ := runEvent_next e s
  exact ⟨t, e, core, enabled, taken, newW, newR⟩

theorem Quiescent.not_coreStep {s : State} (quiescent : Quiescent s) (t : State) : ¬ CoreStep s t := by
  obtain ⟨noTx, noPop, noDelivery, copiedW, copiedR⟩ := quiescent
  rintro ⟨e, core, enabled, -, newW, newR⟩
  cases e with
  | txStep => exact absurd enabled (Bool.eq_false_iff.1 noTx)
  | rxPop => exact absurd enabled (Bool.eq_false_iff.1 noPop)
  | deliverHeld => exact absurd enabled (Bool.eq_false_iff.1 noDelivery)
  | syncW2R => exact newW rfl copiedW
  | syncR2W => exact newR rfl copiedR
  | hostRead | hostWrite | srcPush | rst => cases core

theorem quiescent_of_not_coreStep {s : State} (stuck : ¬ ∃ t, CoreStep s t) : Quiescent s := by
  refine ⟨Bool.eq_false_iff.2 fun enabled => ?_, Bool.eq_false_iff.2 fun enabled => ?_,
    Bool.eq_false_iff.2 fun enabled => ?_, by_contra fun new => ?_, by_contra fun new => ?_⟩
  · exact stuck (exists_coreStep (e := .txStep) rfl enabled nofun nofun)
  · exact stuck (exists_coreStep (e := .rxPop) rfl enabled nofun nofun)
  · exact stuck (exists_coreStep (e := .deliverHeld) rfl enabled nofun nofun)
  · exact stuck (exists_coreStep (e := .syncW2R) rfl rfl (fun _ => new) nofun)
  · exact stuck (exists_coreStep (e := .syncR2W) rfl rfl nofun fun _ => new)

/-- Settles O58: every core step takes some of `coreWork`, and each conjunct of quiescence rules out one kind of step. -/
theorem theCoreAlwaysBecomesQuiescent : Obligations.TheCoreAlwaysBecomesQuiescent := by
  unfold Obligations.TheCoreAlwaysBecomesQuiescent
  exact ⟨fun run inv => not_forall_coreStep ((invariant_iff _).2 inv),
    fun s => ⟨Quiescent.not_coreStep, fun stuck => quiescent_of_not_coreStep (not_exists.2 stuck)⟩⟩

end Sys2Proof.Machine
end
